-- ==== Sys2Proof/Word.lean ====
section
/-!
DEFINITION. The two word sizes of the TLCS-870/C1 (spec 00_scope.md R7: general registers are 8 bits wide,
pairs, index registers, PC, SP and data addresses 16 bits).
-/

namespace Sys2Proof

/-- A byte of a register, of the data area or of the code area (R7, R8: bit 7 is the most significant). -/
abbrev Byte := BitVec 8

/-- A 16-bit value: a register pair, an index register, SP, PC, or an address of either area (R7). -/
abbrev Word := BitVec 16

/-- A bit number 0..7, the 3-bit field `bbb` of an opcode byte (R85). -/
abbrev BitNo := BitVec 3

end Sys2Proof
end

