-- ==== Sys2Proof/Config.lean ====
section
/-!
DEFINITION. What an implementation fixes (spec 00_scope.md R7, 92_eei_decisions.md) and the free values
of 93_implementation_defined.md section 2. A constant declared `opaque` has no body: nothing can be
proved of its value, so a theorem holds whatever the value is.
-/

namespace Sys2Proof.Config

/-- `VCALL_BASE`, the first address of the vector-call area in the code area (R7, R70). -/
def vcallBase : Word := 0xFFA0

/-- The data address whose bit 0 is IMF (R57). -/
def imfAddr : Word := 0x003A

/-- `SWI_VECTOR`, OPEN in the spec (R7, D6). Log entry 3. -/
opaque swiVector : Word

/-- `RESET_VECTOR`, OPEN in the spec (R7, D7). Log entry 3. -/
opaque resetVector : Word

/-- `INT_VECTOR(s)`, OPEN in the spec (R7, D8). Log entry 3. -/
opaque intVector : Nat → Word

/-- `NEXT_AFTER_FFFF`, the data address of the second byte of a 2-byte data access that starts at
`0xFFFF`, OPEN in the spec (R53, D4, C19). Log entry 4. -/
opaque nextAfterFFFF : Word

/-- The free value `any1` of R9, one for each draw. Log entry 5. -/
opaque any1 : Nat → Bool

/-- The free value `any8` of R9, one for each draw. Log entry 5. -/
opaque any8 : Nat → Byte

/-- What the data area holds after a reset event (R380: unspecified), one list for each draw.
Log entry 10. -/
opaque anyData : Nat → List (Word × Byte)

end Sys2Proof.Config
end

