-- ==== Sys2Proof/Machine/Bits.lean ====
section
/-!
DEFINITION. Bit-field, sign-extension and byte-order helpers (spec 00_scope.md R8, R9).
-/

namespace Sys2Proof.Machine

/-- `hi ++ lo` (R8): the first-named byte is the more significant one. -/
def wordOf (hi lo : Byte) : Word := hi ++ lo

/-- Bits 15..8 of a word. -/
def hiByte (v : Word) : Byte := v.extractLsb' 8 8

/-- Bits 7..0 of a word. -/
def loByte (v : Word) : Byte := v.extractLsb' 0 8

/-- `sext_16` of an 8-bit value (R9). -/
def sext16 (v : Byte) : Word := v.signExtend 16

/-- `sext5_16` of a 5-bit value (R9). -/
def sext5To16 (v : BitVec 5) : Word := v.signExtend 16

/-- `zext_16` of an 8-bit value (R9). -/
def zext16 (v : Byte) : Word := v.setWidth 16

/-- `bit(v, k)` (R250): bit `k` of a byte. -/
def bitOf (v : Byte) (k : Nat) : Bool := v.getLsbD k

/-- `setbit(v, k, c)` (R250): `v` with bit `k` replaced by `c`. -/
def setBit (v : Byte) (k : Nat) (c : Bool) : Byte :=
  if c then v ||| (1#8 <<< k) else v &&& ~~~(1#8 <<< k)

/-- A bit as a byte 0 or 1. -/
def bitByte (c : Bool) : Byte := if c then 1 else 0

end Sys2Proof.Machine
end

