-- ==== Sys2Proof/Syntax.lean ====
section
/-!
DEFINITION. Operand types and the ONE inductive of instructions: a constructor for each of the 783 rows of
spec/opcode_table.json (an instruction form with its addressing mode written out). The rows that the table
marks as assembler spellings (`TEST`, `DI`, `EI`; R99, R264) have constructors too; the decoder answers the
basic instruction (log entry 13).
-/

namespace Sys2Proof

/-- 8-bit register operand, in code order (R22). -/
inductive Reg8 where
  | a | w | c | b | e | d | l | h
deriving DecidableEq, Repr

/-- 16-bit register operand, in code order (R23); code 7 names HL a second time. -/
inductive Reg16 where
  | wa | bc | de | hl | ix | iy | sp | hlAlt
deriving DecidableEq, Repr

/-- Register pair of the 1-byte `PUSH rr`, `POP rr` (R24, R85) and of `MUL` (R210), in code order. -/
inductive Pair where
  | wa | bc | de | hl
deriving DecidableEq, Repr

/-- Index register of the prefixed `PUSH gg`, `POP gg` (R24). -/
inductive IndexReg where
  | ix | iy
deriving DecidableEq, Repr

/-- Dividend pair of `DIV gg,C` (R211). -/
inductive DivPair where
  | wa | de | hl
deriving DecidableEq, Repr

/-- The eight two-operand arithmetic/logic operations, in the order of the field `ooo` (R86). -/
inductive AluOp where
  | addc | add | subb | sub | and | xor | or | cmp
deriving DecidableEq, Repr

/-- The three bit operations `SET`, `CLR`, `CPL` (R250). -/
inductive BitOp where
  | set | clr | cpl
deriving DecidableEq, Repr

/-- The 8-bit shifts and rotates through carry, in code order (R231 to R234). -/
inductive Shift8 where
  | shlc | shrc | rolc | rorc
deriving DecidableEq, Repr

/-- The 16-bit arithmetic shifts, in code order (R235, R236). -/
inductive Shift16 where
  | shlca | shrca
deriving DecidableEq, Repr

/-- Conditions of the 2-byte `JR cc,a`, in code order (R87, R294); `z`, `nz`, `cs`, `cc` are also written
`EQ`, `NE`, `LT`, `GE`. -/
inductive Cond where
  | z | nz | cs | cc | le | gt | t | f
deriving DecidableEq, Repr

/-- Conditions of the 3-byte `JR cc,a`, in code order (R87, R295). -/
inductive CondLong where
  | m | p | slt | sge | sle | sgt | vs | vc
deriving DecidableEq, Repr

/-- Source memory operand (R58): the thirteen addressing modes a source memory byte selects. -/
inductive Src where
  /-- `(x)`, R62 -/
  | x (x : Byte)
  /-- `(vw)`, R67 -/
  | vw (addr : Word)
  /-- `(DE)`, R59 -/
  | de
  /-- `(HL)`, R59 -/
  | hl
  /-- `(IX)`, R59 -/
  | ix
  /-- `(IY)`, R59 -/
  | iy
  /-- `(+SP)`, R63 -/
  | incSP
  /-- `(HL+C)`, R61 -/
  | hlC
  /-- `(IX+d)`, R60 -/
  | ixd (d : Byte)
  /-- `(IY+d)`, R60 -/
  | iyd (d : Byte)
  /-- `(SP+d)`, R65 -/
  | spd (d : Byte)
  /-- `(HL+d)`, R60 -/
  | hld (d : Byte)
  /-- `(PC+A)`, R66 -/
  | pcA
deriving DecidableEq, Repr

/-- Destination memory operand (R58): the twelve addressing modes a destination memory byte selects. -/
inductive Dst where
  /-- `(x)`, R62 -/
  | x (x : Byte)
  /-- `(vw)`, R67 -/
  | vw (addr : Word)
  /-- `(DE)`, R59 -/
  | de
  /-- `(HL)`, R59 -/
  | hl
  /-- `(IX)`, R59 -/
  | ix
  /-- `(IY)`, R59 -/
  | iy
  /-- `(SP-)`, R64 -/
  | spDec
  /-- `(HL+C)`, R61 -/
  | hlC
  /-- `(IX+d)`, R60 -/
  | ixd (d : Byte)
  /-- `(IY+d)`, R60 -/
  | iyd (d : Byte)
  /-- `(SP+d)`, R65 -/
  | spd (d : Byte)
  /-- `(HL+d)`, R60 -/
  | hld (d : Byte)
deriving DecidableEq, Repr

/-- The instructions, in the order of spec/opcode_table.json. Fields follow the operands of the mnemonic;
`addr` is `vw` (`v ++ w`), `mn` is `m ++ n`, and the displacement `d` and the immediate `n` are the raw bytes
of the object code. A constructor that ends in `Long` is the longer of two encodings of one mnemonic (R95). -/
inductive Instr where
  /-- `NOP`, R335 -/
  | nop
  /-- `CLR CF`, R281 -/
  | clrCF
  /-- `SET CF`, R280 -/
  | setCF
  /-- `CPL CF`, R282 -/
  | cplCF
  /-- `CMP (x),n`, R190 -/
  | cmpAtXN (x : Byte) (n : Byte)
  /-- `LDW (x),mn`, R142 -/
  | ldwAtXMN (x : Byte) (mn : Word)
  /-- `LDW (HL),mn`, R143 -/
  | ldwAtHLMN (mn : Word)
  /-- `LD (x),n`, R139 -/
  | ldAtXN (x : Byte) (n : Byte)
  /-- `LD (HL),n`, R140 -/
  | ldAtHLN (n : Byte)
  /-- `LD A,(x)`, R125 -/
  | ldAAtX (x : Byte)
  /-- `LD A,(HL)`, R126 -/
  | ldAAtHL
  /-- `LD (x),A`, R129 -/
  | ldAtXA (x : Byte)
  /-- `LD (HL),A`, R130 -/
  | ldAtHLA
  /-- `LD A,r`, R121 -/
  | ldAR (r : Reg8)
  /-- `LD r,n`, R133 -/
  | ldRN (r : Reg8) (n : Byte)
  /-- `INC r`, R200 -/
  | incR (r : Reg8)
  /-- `DEC r`, R203 -/
  | decR (r : Reg8)
  /-- `INC rr`, R201 -/
  | incRR (rr : Reg16)
  /-- `LD SP,SP+d`, R152 -/
  | ldSPAddD (d : Byte)
  /-- `DEC rr`, R204 -/
  | decRR (rr : Reg16)
  /-- `LD SP,SP-d`, R153 -/
  | ldSPSubD (d : Byte)
  /-- `LD r,A`, R122 -/
  | ldRA (r : Reg8)
  /-- `LD rr,mn`, R134 -/
  | ldRRMN (rr : Reg16) (mn : Word)
  /-- `PUSH rr`, R144 -/
  | pushRR (p : Pair)
  /-- `LD CF,(x).b`, R261 -/
  | ldCFAtXb (x : Byte) (b : BitNo)
  /-- `TEST (x).b`, R264 -/
  | testAtXb (x : Byte) (b : BitNo)
  /-- `ADDC A,n`, R196 -/
  | addcAN (n : Byte)
  /-- `ADD A,n`, R195 -/
  | addAN (n : Byte)
  /-- `SUBB A,n`, R198 -/
  | subbAN (n : Byte)
  /-- `SUB A,n`, R197 -/
  | subAN (n : Byte)
  /-- `AND A,n`, R213 -/
  | andAN (n : Byte)
  /-- `XOR A,n`, R215 -/
  | xorAN (n : Byte)
  /-- `OR A,n`, R214 -/
  | orAN (n : Byte)
  /-- `CMP A,n`, R199 -/
  | cmpAN (n : Byte)
  /-- `CALLV n`, R321 -/
  | callvN (n : BitVec 4)
  /-- `JRS T,a`, R292 -/
  | jrsT (d : BitVec 5)
  /-- `JRS F,a`, R293 -/
  | jrsF (d : BitVec 5)
  /-- `SET (x).b`, R252 -/
  | setAtXb (x : Byte) (b : BitNo)
  /-- `EI`, R284 -/
  | ei
  /-- `CLR (x).b`, R256 -/
  | clrAtXb (x : Byte) (b : BitNo)
  /-- `DI`, R283 -/
  | di
  /-- `POP rr`, R145 -/
  | popRR (p : Pair)
  /-- `JR Z,a`, R294 -/
  | jrZ (d : Byte)
  /-- `JR NZ,a`, R294 -/
  | jrNZ (d : Byte)
  /-- `JR CS,a`, R294 -/
  | jrCS (d : Byte)
  /-- `JR CC,a`, R294 -/
  | jrCC (d : Byte)
  /-- `JR LE,a`, R294 -/
  | jrLE (d : Byte)
  /-- `JR GT,a`, R294 -/
  | jrGT (d : Byte)
  /-- `JR T,a`, R294 -/
  | jrT (d : Byte)
  /-- `JR F,a`, R294 -/
  | jrF (d : Byte)
  /-- `LD RBS,0`, R151 -/
  | ldRBS0
  /-- `LD RBS,1`, R151 -/
  | ldRBS1
  /-- `RET`, R328 -/
  | ret
  /-- `RETI`, R329 -/
  | reti
  /-- `JR a`, R296 -/
  | jrA (d : Byte)
  /-- `CALL mn`, R322 -/
  | callMN (mn : Word)
  /-- `JP mn`, R297 -/
  | jpMN (mn : Word)
  /-- `SWI`, R333 -/
  | swi
  /-- `ADDC r,g`, R196 -/
  | addcRG (r : Reg8) (g : Reg8)
  /-- `ADDC g,n`, R196 -/
  | addcGN (g : Reg8) (n : Byte)
  /-- `ADDC gg,mn`, R196 -/
  | addcGGMN (gg : Reg16) (mn : Word)
  /-- `ADDC rr,gg`, R196 -/
  | addcRRGG (rr : Reg16) (gg : Reg16)
  /-- `ADD r,g`, R195 -/
  | addRG (r : Reg8) (g : Reg8)
  /-- `ADD g,n`, R195 -/
  | addGN (g : Reg8) (n : Byte)
  /-- `ADD gg,mn`, R195 -/
  | addGGMN (gg : Reg16) (mn : Word)
  /-- `ADD rr,gg`, R195 -/
  | addRRGG (rr : Reg16) (gg : Reg16)
  /-- `SUBB r,g`, R198 -/
  | subbRG (r : Reg8) (g : Reg8)
  /-- `SUBB g,n`, R198 -/
  | subbGN (g : Reg8) (n : Byte)
  /-- `SUBB gg,mn`, R198 -/
  | subbGGMN (gg : Reg16) (mn : Word)
  /-- `SUBB rr,gg`, R198 -/
  | subbRRGG (rr : Reg16) (gg : Reg16)
  /-- `SUB r,g`, R197 -/
  | subRG (r : Reg8) (g : Reg8)
  /-- `SUB g,n`, R197 -/
  | subGN (g : Reg8) (n : Byte)
  /-- `SUB gg,mn`, R197 -/
  | subGGMN (gg : Reg16) (mn : Word)
  /-- `SUB rr,gg`, R197 -/
  | subRRGG (rr : Reg16) (gg : Reg16)
  /-- `AND r,g`, R213 -/
  | andRG (r : Reg8) (g : Reg8)
  /-- `AND g,n`, R213 -/
  | andGN (g : Reg8) (n : Byte)
  /-- `AND gg,mn`, R213 -/
  | andGGMN (gg : Reg16) (mn : Word)
  /-- `AND rr,gg`, R213 -/
  | andRRGG (rr : Reg16) (gg : Reg16)
  /-- `XOR r,g`, R215 -/
  | xorRG (r : Reg8) (g : Reg8)
  /-- `XOR g,n`, R215 -/
  | xorGN (g : Reg8) (n : Byte)
  /-- `XOR gg,mn`, R215 -/
  | xorGGMN (gg : Reg16) (mn : Word)
  /-- `XOR rr,gg`, R215 -/
  | xorRRGG (rr : Reg16) (gg : Reg16)
  /-- `OR r,g`, R214 -/
  | orRG (r : Reg8) (g : Reg8)
  /-- `OR g,n`, R214 -/
  | orGN (g : Reg8) (n : Byte)
  /-- `OR gg,mn`, R214 -/
  | orGGMN (gg : Reg16) (mn : Word)
  /-- `OR rr,gg`, R214 -/
  | orRRGG (rr : Reg16) (gg : Reg16)
  /-- `CMP r,g`, R199 -/
  | cmpRG (r : Reg8) (g : Reg8)
  /-- `CMP g,n`, R199 -/
  | cmpGN (g : Reg8) (n : Byte)
  /-- `CMP gg,mn`, R199 -/
  | cmpGGMN (gg : Reg16) (mn : Word)
  /-- `CMP rr,gg`, R199 -/
  | cmpRRGG (rr : Reg16) (gg : Reg16)
  /-- `LD r,g`, R123 -/
  | ldRG (r : Reg8) (g : Reg8)
  /-- `LD rr,gg`, R124 -/
  | ldRRGG (rr : Reg16) (gg : Reg16)
  /-- `XOR CF,g.b`, R276 -/
  | xorCFGb (g : Reg8) (b : BitNo)
  /-- `LD CF,g.b`, R260 -/
  | ldCFGb (g : Reg8) (b : BitNo)
  /-- `TEST g.b`, R264 -/
  | testGb (g : Reg8) (b : BitNo)
  /-- `XCH r,g`, R154 -/
  | xchRG (r : Reg8) (g : Reg8)
  /-- `XCH rr,gg`, R155 -/
  | xchRRGG (rr : Reg16) (gg : Reg16)
  /-- `SET g.b`, R251 -/
  | setGb (g : Reg8) (b : BitNo)
  /-- `CLR g.b`, R255 -/
  | clrGb (g : Reg8) (b : BitNo)
  /-- `JR M,a`, R295 -/
  | jrM (d : Byte)
  /-- `JR P,a`, R295 -/
  | jrP (d : Byte)
  /-- `JR SLT,a`, R295 -/
  | jrSLT (d : Byte)
  /-- `JR SGE,a`, R295 -/
  | jrSGE (d : Byte)
  /-- `JR SLE,a`, R295 -/
  | jrSLE (d : Byte)
  /-- `JR SGT,a`, R295 -/
  | jrSGT (d : Byte)
  /-- `JR VS,a`, R295 -/
  | jrVS (d : Byte)
  /-- `JR VC,a`, R295 -/
  | jrVC (d : Byte)
  /-- `PUSH IX`, R146 -/
  | pushIX
  /-- `PUSH IY`, R146 -/
  | pushIY
  /-- `POP IX`, R147 -/
  | popIX
  /-- `POP IY`, R147 -/
  | popIY
  /-- `DAA g`, R207 -/
  | daaG (g : Reg8)
  /-- `DAS g`, R208 -/
  | dasG (g : Reg8)
  /-- `PUSH PSW`, R148 -/
  | pushPSW
  /-- `POP PSW`, R149 -/
  | popPSW
  /-- `LD PSW,n`, R150 -/
  | ldPSWN (n : Byte)
  /-- `CPL g.b`, R270 -/
  | cplGb (g : Reg8) (b : BitNo)
  /-- `LD g.b,CF`, R265 -/
  | ldGbCF (g : Reg8) (b : BitNo)
  /-- `SHLCA gg`, R235 -/
  | shlcaGG (gg : Reg16)
  /-- `SHRCA gg`, R236 -/
  | shrcaGG (gg : Reg16)
  /-- `MUL W,A`, R210 -/
  | mulWA
  /-- `MUL B,C`, R210 -/
  | mulBC
  /-- `MUL D,E`, R210 -/
  | mulDE
  /-- `MUL H,L`, R210 -/
  | mulHL
  /-- `DIV WA,C`, R211 -/
  | divWAC
  /-- `DIV DE,C`, R211 -/
  | divDEC
  /-- `DIV HL,C`, R211 -/
  | divHLC
  /-- `SHLC g`, R231 -/
  | shlcG (g : Reg8)
  /-- `SHRC g`, R232 -/
  | shrcG (g : Reg8)
  /-- `ROLC g`, R233 -/
  | rolcG (g : Reg8)
  /-- `RORC g`, R234 -/
  | rorcG (g : Reg8)
  /-- `NEG CS,gg`, R212 -/
  | negCSGG (gg : Reg16)
  /-- `RETN`, R330 -/
  | retn
  /-- `CALL gg`, R323 -/
  | callGG (gg : Reg16)
  /-- `JP gg`, R298 -/
  | jpGG (gg : Reg16)
  /-- `SWAP g`, R237 -/
  | swapG (g : Reg8)
  /-- `ADDC r,(x)`, R196 -/
  | addcRAtX (r : Reg8) (x : Byte)
  /-- `ADDC r,(vw)`, R196 -/
  | addcRAtVW (r : Reg8) (addr : Word)
  /-- `ADDC r,(DE)`, R196 -/
  | addcRAtDE (r : Reg8)
  /-- `ADDC r,(HL)`, R196 -/
  | addcRAtHL (r : Reg8)
  /-- `ADDC r,(IX)`, R196 -/
  | addcRAtIX (r : Reg8)
  /-- `ADDC r,(IY)`, R196 -/
  | addcRAtIY (r : Reg8)
  /-- `ADDC r,(+SP)`, R196 -/
  | addcRAtIncSP (r : Reg8)
  /-- `ADDC r,(HL+C)`, R196 -/
  | addcRAtHLC (r : Reg8)
  /-- `ADDC r,(IX+d)`, R196 -/
  | addcRAtIXd (r : Reg8) (d : Byte)
  /-- `ADDC r,(IY+d)`, R196 -/
  | addcRAtIYd (r : Reg8) (d : Byte)
  /-- `ADDC r,(SP+d)`, R196 -/
  | addcRAtSPd (r : Reg8) (d : Byte)
  /-- `ADDC r,(HL+d)`, R196 -/
  | addcRAtHLd (r : Reg8) (d : Byte)
  /-- `ADDC r,(PC+A)`, R196 -/
  | addcRAtPCA (r : Reg8)
  /-- `ADDC (x),n`, R196 -/
  | addcAtXN (x : Byte) (n : Byte)
  /-- `ADDC (vw),n`, R196 -/
  | addcAtVWN (addr : Word) (n : Byte)
  /-- `ADDC (DE),n`, R196 -/
  | addcAtDEN (n : Byte)
  /-- `ADDC (HL),n`, R196 -/
  | addcAtHLN (n : Byte)
  /-- `ADDC (IX),n`, R196 -/
  | addcAtIXN (n : Byte)
  /-- `ADDC (IY),n`, R196 -/
  | addcAtIYN (n : Byte)
  /-- `ADDC (+SP),n`, R196 -/
  | addcAtIncSPN (n : Byte)
  /-- `ADDC (HL+C),n`, R196 -/
  | addcAtHLCN (n : Byte)
  /-- `ADDC (IX+d),n`, R196 -/
  | addcAtIXdN (d : Byte) (n : Byte)
  /-- `ADDC (IY+d),n`, R196 -/
  | addcAtIYdN (d : Byte) (n : Byte)
  /-- `ADDC (SP+d),n`, R196 -/
  | addcAtSPdN (d : Byte) (n : Byte)
  /-- `ADDC (HL+d),n`, R196 -/
  | addcAtHLdN (d : Byte) (n : Byte)
  /-- `ADDC (PC+A),n`, R196 -/
  | addcAtPCAN (n : Byte)
  /-- `ADDC rr,(x)`, R196 -/
  | addcRRAtX (rr : Reg16) (x : Byte)
  /-- `ADDC rr,(vw)`, R196 -/
  | addcRRAtVW (rr : Reg16) (addr : Word)
  /-- `ADDC rr,(DE)`, R196 -/
  | addcRRAtDE (rr : Reg16)
  /-- `ADDC rr,(HL)`, R196 -/
  | addcRRAtHL (rr : Reg16)
  /-- `ADDC rr,(IX)`, R196 -/
  | addcRRAtIX (rr : Reg16)
  /-- `ADDC rr,(IY)`, R196 -/
  | addcRRAtIY (rr : Reg16)
  /-- `ADDC rr,(+SP)`, R196 -/
  | addcRRAtIncSP (rr : Reg16)
  /-- `ADDC rr,(HL+C)`, R196 -/
  | addcRRAtHLC (rr : Reg16)
  /-- `ADDC rr,(IX+d)`, R196 -/
  | addcRRAtIXd (rr : Reg16) (d : Byte)
  /-- `ADDC rr,(IY+d)`, R196 -/
  | addcRRAtIYd (rr : Reg16) (d : Byte)
  /-- `ADDC rr,(SP+d)`, R196 -/
  | addcRRAtSPd (rr : Reg16) (d : Byte)
  /-- `ADDC rr,(HL+d)`, R196 -/
  | addcRRAtHLd (rr : Reg16) (d : Byte)
  /-- `ADDC rr,(PC+A)`, R196 -/
  | addcRRAtPCA (rr : Reg16)
  /-- `ADD r,(x)`, R195 -/
  | addRAtX (r : Reg8) (x : Byte)
  /-- `ADD r,(vw)`, R195 -/
  | addRAtVW (r : Reg8) (addr : Word)
  /-- `ADD r,(DE)`, R195 -/
  | addRAtDE (r : Reg8)
  /-- `ADD r,(HL)`, R195 -/
  | addRAtHL (r : Reg8)
  /-- `ADD r,(IX)`, R195 -/
  | addRAtIX (r : Reg8)
  /-- `ADD r,(IY)`, R195 -/
  | addRAtIY (r : Reg8)
  /-- `ADD r,(+SP)`, R195 -/
  | addRAtIncSP (r : Reg8)
  /-- `ADD r,(HL+C)`, R195 -/
  | addRAtHLC (r : Reg8)
  /-- `ADD r,(IX+d)`, R195 -/
  | addRAtIXd (r : Reg8) (d : Byte)
  /-- `ADD r,(IY+d)`, R195 -/
  | addRAtIYd (r : Reg8) (d : Byte)
  /-- `ADD r,(SP+d)`, R195 -/
  | addRAtSPd (r : Reg8) (d : Byte)
  /-- `ADD r,(HL+d)`, R195 -/
  | addRAtHLd (r : Reg8) (d : Byte)
  /-- `ADD r,(PC+A)`, R195 -/
  | addRAtPCA (r : Reg8)
  /-- `ADD (x),n`, R195 -/
  | addAtXN (x : Byte) (n : Byte)
  /-- `ADD (vw),n`, R195 -/
  | addAtVWN (addr : Word) (n : Byte)
  /-- `ADD (DE),n`, R195 -/
  | addAtDEN (n : Byte)
  /-- `ADD (HL),n`, R195 -/
  | addAtHLN (n : Byte)
  /-- `ADD (IX),n`, R195 -/
  | addAtIXN (n : Byte)
  /-- `ADD (IY),n`, R195 -/
  | addAtIYN (n : Byte)
  /-- `ADD (+SP),n`, R195 -/
  | addAtIncSPN (n : Byte)
  /-- `ADD (HL+C),n`, R195 -/
  | addAtHLCN (n : Byte)
  /-- `ADD (IX+d),n`, R195 -/
  | addAtIXdN (d : Byte) (n : Byte)
  /-- `ADD (IY+d),n`, R195 -/
  | addAtIYdN (d : Byte) (n : Byte)
  /-- `ADD (SP+d),n`, R195 -/
  | addAtSPdN (d : Byte) (n : Byte)
  /-- `ADD (HL+d),n`, R195 -/
  | addAtHLdN (d : Byte) (n : Byte)
  /-- `ADD (PC+A),n`, R195 -/
  | addAtPCAN (n : Byte)
  /-- `ADD rr,(x)`, R195 -/
  | addRRAtX (rr : Reg16) (x : Byte)
  /-- `ADD rr,(vw)`, R195 -/
  | addRRAtVW (rr : Reg16) (addr : Word)
  /-- `ADD rr,(DE)`, R195 -/
  | addRRAtDE (rr : Reg16)
  /-- `ADD rr,(HL)`, R195 -/
  | addRRAtHL (rr : Reg16)
  /-- `ADD rr,(IX)`, R195 -/
  | addRRAtIX (rr : Reg16)
  /-- `ADD rr,(IY)`, R195 -/
  | addRRAtIY (rr : Reg16)
  /-- `ADD rr,(+SP)`, R195 -/
  | addRRAtIncSP (rr : Reg16)
  /-- `ADD rr,(HL+C)`, R195 -/
  | addRRAtHLC (rr : Reg16)
  /-- `ADD rr,(IX+d)`, R195 -/
  | addRRAtIXd (rr : Reg16) (d : Byte)
  /-- `ADD rr,(IY+d)`, R195 -/
  | addRRAtIYd (rr : Reg16) (d : Byte)
  /-- `ADD rr,(SP+d)`, R195 -/
  | addRRAtSPd (rr : Reg16) (d : Byte)
  /-- `ADD rr,(HL+d)`, R195 -/
  | addRRAtHLd (rr : Reg16) (d : Byte)
  /-- `ADD rr,(PC+A)`, R195 -/
  | addRRAtPCA (rr : Reg16)
  /-- `SUBB r,(x)`, R198 -/
  | subbRAtX (r : Reg8) (x : Byte)
  /-- `SUBB r,(vw)`, R198 -/
  | subbRAtVW (r : Reg8) (addr : Word)
  /-- `SUBB r,(DE)`, R198 -/
  | subbRAtDE (r : Reg8)
  /-- `SUBB r,(HL)`, R198 -/
  | subbRAtHL (r : Reg8)
  /-- `SUBB r,(IX)`, R198 -/
  | subbRAtIX (r : Reg8)
  /-- `SUBB r,(IY)`, R198 -/
  | subbRAtIY (r : Reg8)
  /-- `SUBB r,(+SP)`, R198 -/
  | subbRAtIncSP (r : Reg8)
  /-- `SUBB r,(HL+C)`, R198 -/
  | subbRAtHLC (r : Reg8)
  /-- `SUBB r,(IX+d)`, R198 -/
  | subbRAtIXd (r : Reg8) (d : Byte)
  /-- `SUBB r,(IY+d)`, R198 -/
  | subbRAtIYd (r : Reg8) (d : Byte)
  /-- `SUBB r,(SP+d)`, R198 -/
  | subbRAtSPd (r : Reg8) (d : Byte)
  /-- `SUBB r,(HL+d)`, R198 -/
  | subbRAtHLd (r : Reg8) (d : Byte)
  /-- `SUBB r,(PC+A)`, R198 -/
  | subbRAtPCA (r : Reg8)
  /-- `SUBB (x),n`, R198 -/
  | subbAtXN (x : Byte) (n : Byte)
  /-- `SUBB (vw),n`, R198 -/
  | subbAtVWN (addr : Word) (n : Byte)
  /-- `SUBB (DE),n`, R198 -/
  | subbAtDEN (n : Byte)
  /-- `SUBB (HL),n`, R198 -/
  | subbAtHLN (n : Byte)
  /-- `SUBB (IX),n`, R198 -/
  | subbAtIXN (n : Byte)
  /-- `SUBB (IY),n`, R198 -/
  | subbAtIYN (n : Byte)
  /-- `SUBB (+SP),n`, R198 -/
  | subbAtIncSPN (n : Byte)
  /-- `SUBB (HL+C),n`, R198 -/
  | subbAtHLCN (n : Byte)
  /-- `SUBB (IX+d),n`, R198 -/
  | subbAtIXdN (d : Byte) (n : Byte)
  /-- `SUBB (IY+d),n`, R198 -/
  | subbAtIYdN (d : Byte) (n : Byte)
  /-- `SUBB (SP+d),n`, R198 -/
  | subbAtSPdN (d : Byte) (n : Byte)
  /-- `SUBB (HL+d),n`, R198 -/
  | subbAtHLdN (d : Byte) (n : Byte)
  /-- `SUBB (PC+A),n`, R198 -/
  | subbAtPCAN (n : Byte)
  /-- `SUBB rr,(x)`, R198 -/
  | subbRRAtX (rr : Reg16) (x : Byte)
  /-- `SUBB rr,(vw)`, R198 -/
  | subbRRAtVW (rr : Reg16) (addr : Word)
  /-- `SUBB rr,(DE)`, R198 -/
  | subbRRAtDE (rr : Reg16)
  /-- `SUBB rr,(HL)`, R198 -/
  | subbRRAtHL (rr : Reg16)
  /-- `SUBB rr,(IX)`, R198 -/
  | subbRRAtIX (rr : Reg16)
  /-- `SUBB rr,(IY)`, R198 -/
  | subbRRAtIY (rr : Reg16)
  /-- `SUBB rr,(+SP)`, R198 -/
  | subbRRAtIncSP (rr : Reg16)
  /-- `SUBB rr,(HL+C)`, R198 -/
  | subbRRAtHLC (rr : Reg16)
  /-- `SUBB rr,(IX+d)`, R198 -/
  | subbRRAtIXd (rr : Reg16) (d : Byte)
  /-- `SUBB rr,(IY+d)`, R198 -/
  | subbRRAtIYd (rr : Reg16) (d : Byte)
  /-- `SUBB rr,(SP+d)`, R198 -/
  | subbRRAtSPd (rr : Reg16) (d : Byte)
  /-- `SUBB rr,(HL+d)`, R198 -/
  | subbRRAtHLd (rr : Reg16) (d : Byte)
  /-- `SUBB rr,(PC+A)`, R198 -/
  | subbRRAtPCA (rr : Reg16)
  /-- `SUB r,(x)`, R197 -/
  | subRAtX (r : Reg8) (x : Byte)
  /-- `SUB r,(vw)`, R197 -/
  | subRAtVW (r : Reg8) (addr : Word)
  /-- `SUB r,(DE)`, R197 -/
  | subRAtDE (r : Reg8)
  /-- `SUB r,(HL)`, R197 -/
  | subRAtHL (r : Reg8)
  /-- `SUB r,(IX)`, R197 -/
  | subRAtIX (r : Reg8)
  /-- `SUB r,(IY)`, R197 -/
  | subRAtIY (r : Reg8)
  /-- `SUB r,(+SP)`, R197 -/
  | subRAtIncSP (r : Reg8)
  /-- `SUB r,(HL+C)`, R197 -/
  | subRAtHLC (r : Reg8)
  /-- `SUB r,(IX+d)`, R197 -/
  | subRAtIXd (r : Reg8) (d : Byte)
  /-- `SUB r,(IY+d)`, R197 -/
  | subRAtIYd (r : Reg8) (d : Byte)
  /-- `SUB r,(SP+d)`, R197 -/
  | subRAtSPd (r : Reg8) (d : Byte)
  /-- `SUB r,(HL+d)`, R197 -/
  | subRAtHLd (r : Reg8) (d : Byte)
  /-- `SUB r,(PC+A)`, R197 -/
  | subRAtPCA (r : Reg8)
  /-- `SUB (x),n`, R197 -/
  | subAtXN (x : Byte) (n : Byte)
  /-- `SUB (vw),n`, R197 -/
  | subAtVWN (addr : Word) (n : Byte)
  /-- `SUB (DE),n`, R197 -/
  | subAtDEN (n : Byte)
  /-- `SUB (HL),n`, R197 -/
  | subAtHLN (n : Byte)
  /-- `SUB (IX),n`, R197 -/
  | subAtIXN (n : Byte)
  /-- `SUB (IY),n`, R197 -/
  | subAtIYN (n : Byte)
  /-- `SUB (+SP),n`, R197 -/
  | subAtIncSPN (n : Byte)
  /-- `SUB (HL+C),n`, R197 -/
  | subAtHLCN (n : Byte)
  /-- `SUB (IX+d),n`, R197 -/
  | subAtIXdN (d : Byte) (n : Byte)
  /-- `SUB (IY+d),n`, R197 -/
  | subAtIYdN (d : Byte) (n : Byte)
  /-- `SUB (SP+d),n`, R197 -/
  | subAtSPdN (d : Byte) (n : Byte)
  /-- `SUB (HL+d),n`, R197 -/
  | subAtHLdN (d : Byte) (n : Byte)
  /-- `SUB (PC+A),n`, R197 -/
  | subAtPCAN (n : Byte)
  /-- `SUB rr,(x)`, R197 -/
  | subRRAtX (rr : Reg16) (x : Byte)
  /-- `SUB rr,(vw)`, R197 -/
  | subRRAtVW (rr : Reg16) (addr : Word)
  /-- `SUB rr,(DE)`, R197 -/
  | subRRAtDE (rr : Reg16)
  /-- `SUB rr,(HL)`, R197 -/
  | subRRAtHL (rr : Reg16)
  /-- `SUB rr,(IX)`, R197 -/
  | subRRAtIX (rr : Reg16)
  /-- `SUB rr,(IY)`, R197 -/
  | subRRAtIY (rr : Reg16)
  /-- `SUB rr,(+SP)`, R197 -/
  | subRRAtIncSP (rr : Reg16)
  /-- `SUB rr,(HL+C)`, R197 -/
  | subRRAtHLC (rr : Reg16)
  /-- `SUB rr,(IX+d)`, R197 -/
  | subRRAtIXd (rr : Reg16) (d : Byte)
  /-- `SUB rr,(IY+d)`, R197 -/
  | subRRAtIYd (rr : Reg16) (d : Byte)
  /-- `SUB rr,(SP+d)`, R197 -/
  | subRRAtSPd (rr : Reg16) (d : Byte)
  /-- `SUB rr,(HL+d)`, R197 -/
  | subRRAtHLd (rr : Reg16) (d : Byte)
  /-- `SUB rr,(PC+A)`, R197 -/
  | subRRAtPCA (rr : Reg16)
  /-- `AND r,(x)`, R213 -/
  | andRAtX (r : Reg8) (x : Byte)
  /-- `AND r,(vw)`, R213 -/
  | andRAtVW (r : Reg8) (addr : Word)
  /-- `AND r,(DE)`, R213 -/
  | andRAtDE (r : Reg8)
  /-- `AND r,(HL)`, R213 -/
  | andRAtHL (r : Reg8)
  /-- `AND r,(IX)`, R213 -/
  | andRAtIX (r : Reg8)
  /-- `AND r,(IY)`, R213 -/
  | andRAtIY (r : Reg8)
  /-- `AND r,(+SP)`, R213 -/
  | andRAtIncSP (r : Reg8)
  /-- `AND r,(HL+C)`, R213 -/
  | andRAtHLC (r : Reg8)
  /-- `AND r,(IX+d)`, R213 -/
  | andRAtIXd (r : Reg8) (d : Byte)
  /-- `AND r,(IY+d)`, R213 -/
  | andRAtIYd (r : Reg8) (d : Byte)
  /-- `AND r,(SP+d)`, R213 -/
  | andRAtSPd (r : Reg8) (d : Byte)
  /-- `AND r,(HL+d)`, R213 -/
  | andRAtHLd (r : Reg8) (d : Byte)
  /-- `AND r,(PC+A)`, R213 -/
  | andRAtPCA (r : Reg8)
  /-- `AND (x),n`, R213 -/
  | andAtXN (x : Byte) (n : Byte)
  /-- `AND (vw),n`, R213 -/
  | andAtVWN (addr : Word) (n : Byte)
  /-- `AND (DE),n`, R213 -/
  | andAtDEN (n : Byte)
  /-- `AND (HL),n`, R213 -/
  | andAtHLN (n : Byte)
  /-- `AND (IX),n`, R213 -/
  | andAtIXN (n : Byte)
  /-- `AND (IY),n`, R213 -/
  | andAtIYN (n : Byte)
  /-- `AND (+SP),n`, R213 -/
  | andAtIncSPN (n : Byte)
  /-- `AND (HL+C),n`, R213 -/
  | andAtHLCN (n : Byte)
  /-- `AND (IX+d),n`, R213 -/
  | andAtIXdN (d : Byte) (n : Byte)
  /-- `AND (IY+d),n`, R213 -/
  | andAtIYdN (d : Byte) (n : Byte)
  /-- `AND (SP+d),n`, R213 -/
  | andAtSPdN (d : Byte) (n : Byte)
  /-- `AND (HL+d),n`, R213 -/
  | andAtHLdN (d : Byte) (n : Byte)
  /-- `AND (PC+A),n`, R213 -/
  | andAtPCAN (n : Byte)
  /-- `AND rr,(x)`, R213 -/
  | andRRAtX (rr : Reg16) (x : Byte)
  /-- `AND rr,(vw)`, R213 -/
  | andRRAtVW (rr : Reg16) (addr : Word)
  /-- `AND rr,(DE)`, R213 -/
  | andRRAtDE (rr : Reg16)
  /-- `AND rr,(HL)`, R213 -/
  | andRRAtHL (rr : Reg16)
  /-- `AND rr,(IX)`, R213 -/
  | andRRAtIX (rr : Reg16)
  /-- `AND rr,(IY)`, R213 -/
  | andRRAtIY (rr : Reg16)
  /-- `AND rr,(+SP)`, R213 -/
  | andRRAtIncSP (rr : Reg16)
  /-- `AND rr,(HL+C)`, R213 -/
  | andRRAtHLC (rr : Reg16)
  /-- `AND rr,(IX+d)`, R213 -/
  | andRRAtIXd (rr : Reg16) (d : Byte)
  /-- `AND rr,(IY+d)`, R213 -/
  | andRRAtIYd (rr : Reg16) (d : Byte)
  /-- `AND rr,(SP+d)`, R213 -/
  | andRRAtSPd (rr : Reg16) (d : Byte)
  /-- `AND rr,(HL+d)`, R213 -/
  | andRRAtHLd (rr : Reg16) (d : Byte)
  /-- `AND rr,(PC+A)`, R213 -/
  | andRRAtPCA (rr : Reg16)
  /-- `XOR r,(x)`, R215 -/
  | xorRAtX (r : Reg8) (x : Byte)
  /-- `XOR r,(vw)`, R215 -/
  | xorRAtVW (r : Reg8) (addr : Word)
  /-- `XOR r,(DE)`, R215 -/
  | xorRAtDE (r : Reg8)
  /-- `XOR r,(HL)`, R215 -/
  | xorRAtHL (r : Reg8)
  /-- `XOR r,(IX)`, R215 -/
  | xorRAtIX (r : Reg8)
  /-- `XOR r,(IY)`, R215 -/
  | xorRAtIY (r : Reg8)
  /-- `XOR r,(+SP)`, R215 -/
  | xorRAtIncSP (r : Reg8)
  /-- `XOR r,(HL+C)`, R215 -/
  | xorRAtHLC (r : Reg8)
  /-- `XOR r,(IX+d)`, R215 -/
  | xorRAtIXd (r : Reg8) (d : Byte)
  /-- `XOR r,(IY+d)`, R215 -/
  | xorRAtIYd (r : Reg8) (d : Byte)
  /-- `XOR r,(SP+d)`, R215 -/
  | xorRAtSPd (r : Reg8) (d : Byte)
  /-- `XOR r,(HL+d)`, R215 -/
  | xorRAtHLd (r : Reg8) (d : Byte)
  /-- `XOR r,(PC+A)`, R215 -/
  | xorRAtPCA (r : Reg8)
  /-- `XOR (x),n`, R215 -/
  | xorAtXN (x : Byte) (n : Byte)
  /-- `XOR (vw),n`, R215 -/
  | xorAtVWN (addr : Word) (n : Byte)
  /-- `XOR (DE),n`, R215 -/
  | xorAtDEN (n : Byte)
  /-- `XOR (HL),n`, R215 -/
  | xorAtHLN (n : Byte)
  /-- `XOR (IX),n`, R215 -/
  | xorAtIXN (n : Byte)
  /-- `XOR (IY),n`, R215 -/
  | xorAtIYN (n : Byte)
  /-- `XOR (+SP),n`, R215 -/
  | xorAtIncSPN (n : Byte)
  /-- `XOR (HL+C),n`, R215 -/
  | xorAtHLCN (n : Byte)
  /-- `XOR (IX+d),n`, R215 -/
  | xorAtIXdN (d : Byte) (n : Byte)
  /-- `XOR (IY+d),n`, R215 -/
  | xorAtIYdN (d : Byte) (n : Byte)
  /-- `XOR (SP+d),n`, R215 -/
  | xorAtSPdN (d : Byte) (n : Byte)
  /-- `XOR (HL+d),n`, R215 -/
  | xorAtHLdN (d : Byte) (n : Byte)
  /-- `XOR (PC+A),n`, R215 -/
  | xorAtPCAN (n : Byte)
  /-- `XOR rr,(x)`, R215 -/
  | xorRRAtX (rr : Reg16) (x : Byte)
  /-- `XOR rr,(vw)`, R215 -/
  | xorRRAtVW (rr : Reg16) (addr : Word)
  /-- `XOR rr,(DE)`, R215 -/
  | xorRRAtDE (rr : Reg16)
  /-- `XOR rr,(HL)`, R215 -/
  | xorRRAtHL (rr : Reg16)
  /-- `XOR rr,(IX)`, R215 -/
  | xorRRAtIX (rr : Reg16)
  /-- `XOR rr,(IY)`, R215 -/
  | xorRRAtIY (rr : Reg16)
  /-- `XOR rr,(+SP)`, R215 -/
  | xorRRAtIncSP (rr : Reg16)
  /-- `XOR rr,(HL+C)`, R215 -/
  | xorRRAtHLC (rr : Reg16)
  /-- `XOR rr,(IX+d)`, R215 -/
  | xorRRAtIXd (rr : Reg16) (d : Byte)
  /-- `XOR rr,(IY+d)`, R215 -/
  | xorRRAtIYd (rr : Reg16) (d : Byte)
  /-- `XOR rr,(SP+d)`, R215 -/
  | xorRRAtSPd (rr : Reg16) (d : Byte)
  /-- `XOR rr,(HL+d)`, R215 -/
  | xorRRAtHLd (rr : Reg16) (d : Byte)
  /-- `XOR rr,(PC+A)`, R215 -/
  | xorRRAtPCA (rr : Reg16)
  /-- `OR r,(x)`, R214 -/
  | orRAtX (r : Reg8) (x : Byte)
  /-- `OR r,(vw)`, R214 -/
  | orRAtVW (r : Reg8) (addr : Word)
  /-- `OR r,(DE)`, R214 -/
  | orRAtDE (r : Reg8)
  /-- `OR r,(HL)`, R214 -/
  | orRAtHL (r : Reg8)
  /-- `OR r,(IX)`, R214 -/
  | orRAtIX (r : Reg8)
  /-- `OR r,(IY)`, R214 -/
  | orRAtIY (r : Reg8)
  /-- `OR r,(+SP)`, R214 -/
  | orRAtIncSP (r : Reg8)
  /-- `OR r,(HL+C)`, R214 -/
  | orRAtHLC (r : Reg8)
  /-- `OR r,(IX+d)`, R214 -/
  | orRAtIXd (r : Reg8) (d : Byte)
  /-- `OR r,(IY+d)`, R214 -/
  | orRAtIYd (r : Reg8) (d : Byte)
  /-- `OR r,(SP+d)`, R214 -/
  | orRAtSPd (r : Reg8) (d : Byte)
  /-- `OR r,(HL+d)`, R214 -/
  | orRAtHLd (r : Reg8) (d : Byte)
  /-- `OR r,(PC+A)`, R214 -/
  | orRAtPCA (r : Reg8)
  /-- `OR (x),n`, R214 -/
  | orAtXN (x : Byte) (n : Byte)
  /-- `OR (vw),n`, R214 -/
  | orAtVWN (addr : Word) (n : Byte)
  /-- `OR (DE),n`, R214 -/
  | orAtDEN (n : Byte)
  /-- `OR (HL),n`, R214 -/
  | orAtHLN (n : Byte)
  /-- `OR (IX),n`, R214 -/
  | orAtIXN (n : Byte)
  /-- `OR (IY),n`, R214 -/
  | orAtIYN (n : Byte)
  /-- `OR (+SP),n`, R214 -/
  | orAtIncSPN (n : Byte)
  /-- `OR (HL+C),n`, R214 -/
  | orAtHLCN (n : Byte)
  /-- `OR (IX+d),n`, R214 -/
  | orAtIXdN (d : Byte) (n : Byte)
  /-- `OR (IY+d),n`, R214 -/
  | orAtIYdN (d : Byte) (n : Byte)
  /-- `OR (SP+d),n`, R214 -/
  | orAtSPdN (d : Byte) (n : Byte)
  /-- `OR (HL+d),n`, R214 -/
  | orAtHLdN (d : Byte) (n : Byte)
  /-- `OR (PC+A),n`, R214 -/
  | orAtPCAN (n : Byte)
  /-- `OR rr,(x)`, R214 -/
  | orRRAtX (rr : Reg16) (x : Byte)
  /-- `OR rr,(vw)`, R214 -/
  | orRRAtVW (rr : Reg16) (addr : Word)
  /-- `OR rr,(DE)`, R214 -/
  | orRRAtDE (rr : Reg16)
  /-- `OR rr,(HL)`, R214 -/
  | orRRAtHL (rr : Reg16)
  /-- `OR rr,(IX)`, R214 -/
  | orRRAtIX (rr : Reg16)
  /-- `OR rr,(IY)`, R214 -/
  | orRRAtIY (rr : Reg16)
  /-- `OR rr,(+SP)`, R214 -/
  | orRRAtIncSP (rr : Reg16)
  /-- `OR rr,(HL+C)`, R214 -/
  | orRRAtHLC (rr : Reg16)
  /-- `OR rr,(IX+d)`, R214 -/
  | orRRAtIXd (rr : Reg16) (d : Byte)
  /-- `OR rr,(IY+d)`, R214 -/
  | orRRAtIYd (rr : Reg16) (d : Byte)
  /-- `OR rr,(SP+d)`, R214 -/
  | orRRAtSPd (rr : Reg16) (d : Byte)
  /-- `OR rr,(HL+d)`, R214 -/
  | orRRAtHLd (rr : Reg16) (d : Byte)
  /-- `OR rr,(PC+A)`, R214 -/
  | orRRAtPCA (rr : Reg16)
  /-- `CMP r,(x)`, R199 -/
  | cmpRAtX (r : Reg8) (x : Byte)
  /-- `CMP r,(vw)`, R199 -/
  | cmpRAtVW (r : Reg8) (addr : Word)
  /-- `CMP r,(DE)`, R199 -/
  | cmpRAtDE (r : Reg8)
  /-- `CMP r,(HL)`, R199 -/
  | cmpRAtHL (r : Reg8)
  /-- `CMP r,(IX)`, R199 -/
  | cmpRAtIX (r : Reg8)
  /-- `CMP r,(IY)`, R199 -/
  | cmpRAtIY (r : Reg8)
  /-- `CMP r,(+SP)`, R199 -/
  | cmpRAtIncSP (r : Reg8)
  /-- `CMP r,(HL+C)`, R199 -/
  | cmpRAtHLC (r : Reg8)
  /-- `CMP r,(IX+d)`, R199 -/
  | cmpRAtIXd (r : Reg8) (d : Byte)
  /-- `CMP r,(IY+d)`, R199 -/
  | cmpRAtIYd (r : Reg8) (d : Byte)
  /-- `CMP r,(SP+d)`, R199 -/
  | cmpRAtSPd (r : Reg8) (d : Byte)
  /-- `CMP r,(HL+d)`, R199 -/
  | cmpRAtHLd (r : Reg8) (d : Byte)
  /-- `CMP r,(PC+A)`, R199 -/
  | cmpRAtPCA (r : Reg8)
  /-- `CMP (x),n`, R199 -/
  | cmpAtXNLong (x : Byte) (n : Byte)
  /-- `CMP (vw),n`, R199 -/
  | cmpAtVWN (addr : Word) (n : Byte)
  /-- `CMP (DE),n`, R199 -/
  | cmpAtDEN (n : Byte)
  /-- `CMP (HL),n`, R199 -/
  | cmpAtHLN (n : Byte)
  /-- `CMP (IX),n`, R199 -/
  | cmpAtIXN (n : Byte)
  /-- `CMP (IY),n`, R199 -/
  | cmpAtIYN (n : Byte)
  /-- `CMP (+SP),n`, R199 -/
  | cmpAtIncSPN (n : Byte)
  /-- `CMP (HL+C),n`, R199 -/
  | cmpAtHLCN (n : Byte)
  /-- `CMP (IX+d),n`, R199 -/
  | cmpAtIXdN (d : Byte) (n : Byte)
  /-- `CMP (IY+d),n`, R199 -/
  | cmpAtIYdN (d : Byte) (n : Byte)
  /-- `CMP (SP+d),n`, R199 -/
  | cmpAtSPdN (d : Byte) (n : Byte)
  /-- `CMP (HL+d),n`, R199 -/
  | cmpAtHLdN (d : Byte) (n : Byte)
  /-- `CMP (PC+A),n`, R199 -/
  | cmpAtPCAN (n : Byte)
  /-- `CMP rr,(x)`, R199 -/
  | cmpRRAtX (rr : Reg16) (x : Byte)
  /-- `CMP rr,(vw)`, R199 -/
  | cmpRRAtVW (rr : Reg16) (addr : Word)
  /-- `CMP rr,(DE)`, R199 -/
  | cmpRRAtDE (rr : Reg16)
  /-- `CMP rr,(HL)`, R199 -/
  | cmpRRAtHL (rr : Reg16)
  /-- `CMP rr,(IX)`, R199 -/
  | cmpRRAtIX (rr : Reg16)
  /-- `CMP rr,(IY)`, R199 -/
  | cmpRRAtIY (rr : Reg16)
  /-- `CMP rr,(+SP)`, R199 -/
  | cmpRRAtIncSP (rr : Reg16)
  /-- `CMP rr,(HL+C)`, R199 -/
  | cmpRRAtHLC (rr : Reg16)
  /-- `CMP rr,(IX+d)`, R199 -/
  | cmpRRAtIXd (rr : Reg16) (d : Byte)
  /-- `CMP rr,(IY+d)`, R199 -/
  | cmpRRAtIYd (rr : Reg16) (d : Byte)
  /-- `CMP rr,(SP+d)`, R199 -/
  | cmpRRAtSPd (rr : Reg16) (d : Byte)
  /-- `CMP rr,(HL+d)`, R199 -/
  | cmpRRAtHLd (rr : Reg16) (d : Byte)
  /-- `CMP rr,(PC+A)`, R199 -/
  | cmpRRAtPCA (rr : Reg16)
  /-- `LD r,(x)`, R127 -/
  | ldRAtX (r : Reg8) (x : Byte)
  /-- `LD r,(vw)`, R127 -/
  | ldRAtVW (r : Reg8) (addr : Word)
  /-- `LD r,(DE)`, R127 -/
  | ldRAtDE (r : Reg8)
  /-- `LD r,(HL)`, R127 -/
  | ldRAtHL (r : Reg8)
  /-- `LD r,(IX)`, R127 -/
  | ldRAtIX (r : Reg8)
  /-- `LD r,(IY)`, R127 -/
  | ldRAtIY (r : Reg8)
  /-- `LD r,(+SP)`, R127 -/
  | ldRAtIncSP (r : Reg8)
  /-- `LD r,(HL+C)`, R127 -/
  | ldRAtHLC (r : Reg8)
  /-- `LD r,(IX+d)`, R127 -/
  | ldRAtIXd (r : Reg8) (d : Byte)
  /-- `LD r,(IY+d)`, R127 -/
  | ldRAtIYd (r : Reg8) (d : Byte)
  /-- `LD r,(SP+d)`, R127 -/
  | ldRAtSPd (r : Reg8) (d : Byte)
  /-- `LD r,(HL+d)`, R127 -/
  | ldRAtHLd (r : Reg8) (d : Byte)
  /-- `LD r,(PC+A)`, R127 -/
  | ldRAtPCA (r : Reg8)
  /-- `LD rr,(x)`, R128 -/
  | ldRRAtX (rr : Reg16) (x : Byte)
  /-- `LD rr,(vw)`, R128 -/
  | ldRRAtVW (rr : Reg16) (addr : Word)
  /-- `LD rr,(DE)`, R128 -/
  | ldRRAtDE (rr : Reg16)
  /-- `LD rr,(HL)`, R128 -/
  | ldRRAtHL (rr : Reg16)
  /-- `LD rr,(IX)`, R128 -/
  | ldRRAtIX (rr : Reg16)
  /-- `LD rr,(IY)`, R128 -/
  | ldRRAtIY (rr : Reg16)
  /-- `LD rr,(+SP)`, R128 -/
  | ldRRAtIncSP (rr : Reg16)
  /-- `LD rr,(HL+C)`, R128 -/
  | ldRRAtHLC (rr : Reg16)
  /-- `LD rr,(IX+d)`, R128 -/
  | ldRRAtIXd (rr : Reg16) (d : Byte)
  /-- `LD rr,(IY+d)`, R128 -/
  | ldRRAtIYd (rr : Reg16) (d : Byte)
  /-- `LD rr,(SP+d)`, R128 -/
  | ldRRAtSPd (rr : Reg16) (d : Byte)
  /-- `LD rr,(HL+d)`, R128 -/
  | ldRRAtHLd (rr : Reg16) (d : Byte)
  /-- `LD rr,(PC+A)`, R128 -/
  | ldRRAtPCA (rr : Reg16)
  /-- `XOR CF,(x).b`, R277 -/
  | xorCFAtXb (x : Byte) (b : BitNo)
  /-- `XOR CF,(vw).b`, R277 -/
  | xorCFAtVWb (addr : Word) (b : BitNo)
  /-- `XOR CF,(DE).b`, R277 -/
  | xorCFAtDEb (b : BitNo)
  /-- `XOR CF,(HL).b`, R277 -/
  | xorCFAtHLb (b : BitNo)
  /-- `XOR CF,(IX).b`, R277 -/
  | xorCFAtIXb (b : BitNo)
  /-- `XOR CF,(IY).b`, R277 -/
  | xorCFAtIYb (b : BitNo)
  /-- `XOR CF,(+SP).b`, R277 -/
  | xorCFAtIncSPb (b : BitNo)
  /-- `XOR CF,(HL+C).b`, R277 -/
  | xorCFAtHLCb (b : BitNo)
  /-- `XOR CF,(IX+d).b`, R277 -/
  | xorCFAtIXdb (d : Byte) (b : BitNo)
  /-- `XOR CF,(IY+d).b`, R277 -/
  | xorCFAtIYdb (d : Byte) (b : BitNo)
  /-- `XOR CF,(SP+d).b`, R277 -/
  | xorCFAtSPdb (d : Byte) (b : BitNo)
  /-- `XOR CF,(HL+d).b`, R277 -/
  | xorCFAtHLdb (d : Byte) (b : BitNo)
  /-- `XOR CF,(PC+A).b`, R277 -/
  | xorCFAtPCAb (b : BitNo)
  /-- `LD CF,(x).b`, R262 -/
  | ldCFAtXbLong (x : Byte) (b : BitNo)
  /-- `LD CF,(vw).b`, R262 -/
  | ldCFAtVWb (addr : Word) (b : BitNo)
  /-- `LD CF,(DE).b`, R262 -/
  | ldCFAtDEb (b : BitNo)
  /-- `LD CF,(HL).b`, R262 -/
  | ldCFAtHLb (b : BitNo)
  /-- `LD CF,(IX).b`, R262 -/
  | ldCFAtIXb (b : BitNo)
  /-- `LD CF,(IY).b`, R262 -/
  | ldCFAtIYb (b : BitNo)
  /-- `LD CF,(+SP).b`, R262 -/
  | ldCFAtIncSPb (b : BitNo)
  /-- `LD CF,(HL+C).b`, R262 -/
  | ldCFAtHLCb (b : BitNo)
  /-- `LD CF,(IX+d).b`, R262 -/
  | ldCFAtIXdb (d : Byte) (b : BitNo)
  /-- `LD CF,(IY+d).b`, R262 -/
  | ldCFAtIYdb (d : Byte) (b : BitNo)
  /-- `LD CF,(SP+d).b`, R262 -/
  | ldCFAtSPdb (d : Byte) (b : BitNo)
  /-- `LD CF,(HL+d).b`, R262 -/
  | ldCFAtHLdb (d : Byte) (b : BitNo)
  /-- `LD CF,(PC+A).b`, R262 -/
  | ldCFAtPCAb (b : BitNo)
  /-- `TEST (x).b`, R264 -/
  | testAtXbLong (x : Byte) (b : BitNo)
  /-- `TEST (vw).b`, R264 -/
  | testAtVWb (addr : Word) (b : BitNo)
  /-- `TEST (DE).b`, R264 -/
  | testAtDEb (b : BitNo)
  /-- `TEST (HL).b`, R264 -/
  | testAtHLb (b : BitNo)
  /-- `TEST (IX).b`, R264 -/
  | testAtIXb (b : BitNo)
  /-- `TEST (IY).b`, R264 -/
  | testAtIYb (b : BitNo)
  /-- `TEST (+SP).b`, R264 -/
  | testAtIncSPb (b : BitNo)
  /-- `TEST (HL+C).b`, R264 -/
  | testAtHLCb (b : BitNo)
  /-- `TEST (IX+d).b`, R264 -/
  | testAtIXdb (d : Byte) (b : BitNo)
  /-- `TEST (IY+d).b`, R264 -/
  | testAtIYdb (d : Byte) (b : BitNo)
  /-- `TEST (SP+d).b`, R264 -/
  | testAtSPdb (d : Byte) (b : BitNo)
  /-- `TEST (HL+d).b`, R264 -/
  | testAtHLdb (d : Byte) (b : BitNo)
  /-- `TEST (PC+A).b`, R264 -/
  | testAtPCAb (b : BitNo)
  /-- `XCH r,(x)`, R156 -/
  | xchRAtX (r : Reg8) (x : Byte)
  /-- `XCH r,(vw)`, R156 -/
  | xchRAtVW (r : Reg8) (addr : Word)
  /-- `XCH r,(DE)`, R156 -/
  | xchRAtDE (r : Reg8)
  /-- `XCH r,(HL)`, R156 -/
  | xchRAtHL (r : Reg8)
  /-- `XCH r,(IX)`, R156 -/
  | xchRAtIX (r : Reg8)
  /-- `XCH r,(IY)`, R156 -/
  | xchRAtIY (r : Reg8)
  /-- `XCH r,(+SP)`, R156 -/
  | xchRAtIncSP (r : Reg8)
  /-- `XCH r,(HL+C)`, R156 -/
  | xchRAtHLC (r : Reg8)
  /-- `XCH r,(IX+d)`, R156 -/
  | xchRAtIXd (r : Reg8) (d : Byte)
  /-- `XCH r,(IY+d)`, R156 -/
  | xchRAtIYd (r : Reg8) (d : Byte)
  /-- `XCH r,(SP+d)`, R156 -/
  | xchRAtSPd (r : Reg8) (d : Byte)
  /-- `XCH r,(HL+d)`, R156 -/
  | xchRAtHLd (r : Reg8) (d : Byte)
  /-- `XCH r,(PC+A)`, R156 -/
  | xchRAtPCA (r : Reg8)
  /-- `SET (x).b`, R253 -/
  | setAtXbLong (x : Byte) (b : BitNo)
  /-- `SET (vw).b`, R253 -/
  | setAtVWb (addr : Word) (b : BitNo)
  /-- `SET (DE).b`, R253 -/
  | setAtDEb (b : BitNo)
  /-- `SET (HL).b`, R253 -/
  | setAtHLb (b : BitNo)
  /-- `SET (IX).b`, R253 -/
  | setAtIXb (b : BitNo)
  /-- `SET (IY).b`, R253 -/
  | setAtIYb (b : BitNo)
  /-- `SET (+SP).b`, R253 -/
  | setAtIncSPb (b : BitNo)
  /-- `SET (HL+C).b`, R253 -/
  | setAtHLCb (b : BitNo)
  /-- `SET (IX+d).b`, R253 -/
  | setAtIXdb (d : Byte) (b : BitNo)
  /-- `SET (IY+d).b`, R253 -/
  | setAtIYdb (d : Byte) (b : BitNo)
  /-- `SET (SP+d).b`, R253 -/
  | setAtSPdb (d : Byte) (b : BitNo)
  /-- `SET (HL+d).b`, R253 -/
  | setAtHLdb (d : Byte) (b : BitNo)
  /-- `SET (PC+A).b`, R253 -/
  | setAtPCAb (b : BitNo)
  /-- `CLR (x).b`, R257 -/
  | clrAtXbLong (x : Byte) (b : BitNo)
  /-- `CLR (vw).b`, R257 -/
  | clrAtVWb (addr : Word) (b : BitNo)
  /-- `CLR (DE).b`, R257 -/
  | clrAtDEb (b : BitNo)
  /-- `CLR (HL).b`, R257 -/
  | clrAtHLb (b : BitNo)
  /-- `CLR (IX).b`, R257 -/
  | clrAtIXb (b : BitNo)
  /-- `CLR (IY).b`, R257 -/
  | clrAtIYb (b : BitNo)
  /-- `CLR (+SP).b`, R257 -/
  | clrAtIncSPb (b : BitNo)
  /-- `CLR (HL+C).b`, R257 -/
  | clrAtHLCb (b : BitNo)
  /-- `CLR (IX+d).b`, R257 -/
  | clrAtIXdb (d : Byte) (b : BitNo)
  /-- `CLR (IY+d).b`, R257 -/
  | clrAtIYdb (d : Byte) (b : BitNo)
  /-- `CLR (SP+d).b`, R257 -/
  | clrAtSPdb (d : Byte) (b : BitNo)
  /-- `CLR (HL+d).b`, R257 -/
  | clrAtHLdb (d : Byte) (b : BitNo)
  /-- `CLR (PC+A).b`, R257 -/
  | clrAtPCAb (b : BitNo)
  /-- `XCH rr,(x)`, R157 -/
  | xchRRAtX (rr : Reg16) (x : Byte)
  /-- `XCH rr,(vw)`, R157 -/
  | xchRRAtVW (rr : Reg16) (addr : Word)
  /-- `XCH rr,(DE)`, R157 -/
  | xchRRAtDE (rr : Reg16)
  /-- `XCH rr,(HL)`, R157 -/
  | xchRRAtHL (rr : Reg16)
  /-- `XCH rr,(IX)`, R157 -/
  | xchRRAtIX (rr : Reg16)
  /-- `XCH rr,(IY)`, R157 -/
  | xchRRAtIY (rr : Reg16)
  /-- `XCH rr,(+SP)`, R157 -/
  | xchRRAtIncSP (rr : Reg16)
  /-- `XCH rr,(HL+C)`, R157 -/
  | xchRRAtHLC (rr : Reg16)
  /-- `XCH rr,(IX+d)`, R157 -/
  | xchRRAtIXd (rr : Reg16) (d : Byte)
  /-- `XCH rr,(IY+d)`, R157 -/
  | xchRRAtIYd (rr : Reg16) (d : Byte)
  /-- `XCH rr,(SP+d)`, R157 -/
  | xchRRAtSPd (rr : Reg16) (d : Byte)
  /-- `XCH rr,(HL+d)`, R157 -/
  | xchRRAtHLd (rr : Reg16) (d : Byte)
  /-- `XCH rr,(PC+A)`, R157 -/
  | xchRRAtPCA (rr : Reg16)
  /-- `CPL (x).b`, R271 -/
  | cplAtXb (x : Byte) (b : BitNo)
  /-- `CPL (vw).b`, R271 -/
  | cplAtVWb (addr : Word) (b : BitNo)
  /-- `CPL (DE).b`, R271 -/
  | cplAtDEb (b : BitNo)
  /-- `CPL (HL).b`, R271 -/
  | cplAtHLb (b : BitNo)
  /-- `CPL (IX).b`, R271 -/
  | cplAtIXb (b : BitNo)
  /-- `CPL (IY).b`, R271 -/
  | cplAtIYb (b : BitNo)
  /-- `CPL (+SP).b`, R271 -/
  | cplAtIncSPb (b : BitNo)
  /-- `CPL (HL+C).b`, R271 -/
  | cplAtHLCb (b : BitNo)
  /-- `CPL (IX+d).b`, R271 -/
  | cplAtIXdb (d : Byte) (b : BitNo)
  /-- `CPL (IY+d).b`, R271 -/
  | cplAtIYdb (d : Byte) (b : BitNo)
  /-- `CPL (SP+d).b`, R271 -/
  | cplAtSPdb (d : Byte) (b : BitNo)
  /-- `CPL (HL+d).b`, R271 -/
  | cplAtHLdb (d : Byte) (b : BitNo)
  /-- `CPL (PC+A).b`, R271 -/
  | cplAtPCAb (b : BitNo)
  /-- `LD (x).b,CF`, R266 -/
  | ldAtXbCF (x : Byte) (b : BitNo)
  /-- `LD (vw).b,CF`, R266 -/
  | ldAtVWbCF (addr : Word) (b : BitNo)
  /-- `LD (DE).b,CF`, R266 -/
  | ldAtDEbCF (b : BitNo)
  /-- `LD (HL).b,CF`, R266 -/
  | ldAtHLbCF (b : BitNo)
  /-- `LD (IX).b,CF`, R266 -/
  | ldAtIXbCF (b : BitNo)
  /-- `LD (IY).b,CF`, R266 -/
  | ldAtIYbCF (b : BitNo)
  /-- `LD (+SP).b,CF`, R266 -/
  | ldAtIncSPbCF (b : BitNo)
  /-- `LD (HL+C).b,CF`, R266 -/
  | ldAtHLCbCF (b : BitNo)
  /-- `LD (IX+d).b,CF`, R266 -/
  | ldAtIXdbCF (d : Byte) (b : BitNo)
  /-- `LD (IY+d).b,CF`, R266 -/
  | ldAtIYdbCF (d : Byte) (b : BitNo)
  /-- `LD (SP+d).b,CF`, R266 -/
  | ldAtSPdbCF (d : Byte) (b : BitNo)
  /-- `LD (HL+d).b,CF`, R266 -/
  | ldAtHLdbCF (d : Byte) (b : BitNo)
  /-- `LD (PC+A).b,CF`, R266 -/
  | ldAtPCAbCF (b : BitNo)
  /-- `INC (x)`, R202 -/
  | incAtX (x : Byte)
  /-- `INC (vw)`, R202 -/
  | incAtVW (addr : Word)
  /-- `INC (DE)`, R202 -/
  | incAtDE
  /-- `INC (HL)`, R202 -/
  | incAtHL
  /-- `INC (IX)`, R202 -/
  | incAtIX
  /-- `INC (IY)`, R202 -/
  | incAtIY
  /-- `INC (+SP)`, R202 -/
  | incAtIncSP
  /-- `INC (HL+C)`, R202 -/
  | incAtHLC
  /-- `INC (IX+d)`, R202 -/
  | incAtIXd (d : Byte)
  /-- `INC (IY+d)`, R202 -/
  | incAtIYd (d : Byte)
  /-- `INC (SP+d)`, R202 -/
  | incAtSPd (d : Byte)
  /-- `INC (HL+d)`, R202 -/
  | incAtHLd (d : Byte)
  /-- `INC (PC+A)`, R202 -/
  | incAtPCA
  /-- `SET (x).A`, R254 -/
  | setAtXbitA (x : Byte)
  /-- `SET (vw).A`, R254 -/
  | setAtVWbitA (addr : Word)
  /-- `SET (DE).A`, R254 -/
  | setAtDEbitA
  /-- `SET (HL).A`, R254 -/
  | setAtHLbitA
  /-- `SET (IX).A`, R254 -/
  | setAtIXbitA
  /-- `SET (IY).A`, R254 -/
  | setAtIYbitA
  /-- `SET (+SP).A`, R254 -/
  | setAtIncSPbitA
  /-- `SET (HL+C).A`, R254 -/
  | setAtHLCbitA
  /-- `SET (IX+d).A`, R254 -/
  | setAtIXdbitA (d : Byte)
  /-- `SET (IY+d).A`, R254 -/
  | setAtIYdbitA (d : Byte)
  /-- `SET (SP+d).A`, R254 -/
  | setAtSPdbitA (d : Byte)
  /-- `SET (HL+d).A`, R254 -/
  | setAtHLdbitA (d : Byte)
  /-- `SET (PC+A).A`, R254 -/
  | setAtPCAbitA
  /-- `LD (x).A,CF`, R267 -/
  | ldAtXbitACF (x : Byte)
  /-- `LD (vw).A,CF`, R267 -/
  | ldAtVWbitACF (addr : Word)
  /-- `LD (DE).A,CF`, R267 -/
  | ldAtDEbitACF
  /-- `LD (HL).A,CF`, R267 -/
  | ldAtHLbitACF
  /-- `LD (IX).A,CF`, R267 -/
  | ldAtIXbitACF
  /-- `LD (IY).A,CF`, R267 -/
  | ldAtIYbitACF
  /-- `LD (+SP).A,CF`, R267 -/
  | ldAtIncSPbitACF
  /-- `LD (HL+C).A,CF`, R267 -/
  | ldAtHLCbitACF
  /-- `LD (IX+d).A,CF`, R267 -/
  | ldAtIXdbitACF (d : Byte)
  /-- `LD (IY+d).A,CF`, R267 -/
  | ldAtIYdbitACF (d : Byte)
  /-- `LD (SP+d).A,CF`, R267 -/
  | ldAtSPdbitACF (d : Byte)
  /-- `LD (HL+d).A,CF`, R267 -/
  | ldAtHLdbitACF (d : Byte)
  /-- `LD (PC+A).A,CF`, R267 -/
  | ldAtPCAbitACF
  /-- `ROLD A,(x)`, R238 -/
  | roldAAtX (x : Byte)
  /-- `ROLD A,(vw)`, R238 -/
  | roldAAtVW (addr : Word)
  /-- `ROLD A,(DE)`, R238 -/
  | roldAAtDE
  /-- `ROLD A,(HL)`, R238 -/
  | roldAAtHL
  /-- `ROLD A,(IX)`, R238 -/
  | roldAAtIX
  /-- `ROLD A,(IY)`, R238 -/
  | roldAAtIY
  /-- `ROLD A,(+SP)`, R238 -/
  | roldAAtIncSP
  /-- `ROLD A,(HL+C)`, R238 -/
  | roldAAtHLC
  /-- `ROLD A,(IX+d)`, R238 -/
  | roldAAtIXd (d : Byte)
  /-- `ROLD A,(IY+d)`, R238 -/
  | roldAAtIYd (d : Byte)
  /-- `ROLD A,(SP+d)`, R238 -/
  | roldAAtSPd (d : Byte)
  /-- `ROLD A,(HL+d)`, R238 -/
  | roldAAtHLd (d : Byte)
  /-- `ROLD A,(PC+A)`, R238 -/
  | roldAAtPCA
  /-- `RORD A,(x)`, R239 -/
  | rordAAtX (x : Byte)
  /-- `RORD A,(vw)`, R239 -/
  | rordAAtVW (addr : Word)
  /-- `RORD A,(DE)`, R239 -/
  | rordAAtDE
  /-- `RORD A,(HL)`, R239 -/
  | rordAAtHL
  /-- `RORD A,(IX)`, R239 -/
  | rordAAtIX
  /-- `RORD A,(IY)`, R239 -/
  | rordAAtIY
  /-- `RORD A,(+SP)`, R239 -/
  | rordAAtIncSP
  /-- `RORD A,(HL+C)`, R239 -/
  | rordAAtHLC
  /-- `RORD A,(IX+d)`, R239 -/
  | rordAAtIXd (d : Byte)
  /-- `RORD A,(IY+d)`, R239 -/
  | rordAAtIYd (d : Byte)
  /-- `RORD A,(SP+d)`, R239 -/
  | rordAAtSPd (d : Byte)
  /-- `RORD A,(HL+d)`, R239 -/
  | rordAAtHLd (d : Byte)
  /-- `RORD A,(PC+A)`, R239 -/
  | rordAAtPCA
  /-- `DEC (x)`, R205 -/
  | decAtX (x : Byte)
  /-- `DEC (vw)`, R205 -/
  | decAtVW (addr : Word)
  /-- `DEC (DE)`, R205 -/
  | decAtDE
  /-- `DEC (HL)`, R205 -/
  | decAtHL
  /-- `DEC (IX)`, R205 -/
  | decAtIX
  /-- `DEC (IY)`, R205 -/
  | decAtIY
  /-- `DEC (+SP)`, R205 -/
  | decAtIncSP
  /-- `DEC (HL+C)`, R205 -/
  | decAtHLC
  /-- `DEC (IX+d)`, R205 -/
  | decAtIXd (d : Byte)
  /-- `DEC (IY+d)`, R205 -/
  | decAtIYd (d : Byte)
  /-- `DEC (SP+d)`, R205 -/
  | decAtSPd (d : Byte)
  /-- `DEC (HL+d)`, R205 -/
  | decAtHLd (d : Byte)
  /-- `DEC (PC+A)`, R205 -/
  | decAtPCA
  /-- `CLR (x).A`, R258 -/
  | clrAtXbitA (x : Byte)
  /-- `CLR (vw).A`, R258 -/
  | clrAtVWbitA (addr : Word)
  /-- `CLR (DE).A`, R258 -/
  | clrAtDEbitA
  /-- `CLR (HL).A`, R258 -/
  | clrAtHLbitA
  /-- `CLR (IX).A`, R258 -/
  | clrAtIXbitA
  /-- `CLR (IY).A`, R258 -/
  | clrAtIYbitA
  /-- `CLR (+SP).A`, R258 -/
  | clrAtIncSPbitA
  /-- `CLR (HL+C).A`, R258 -/
  | clrAtHLCbitA
  /-- `CLR (IX+d).A`, R258 -/
  | clrAtIXdbitA (d : Byte)
  /-- `CLR (IY+d).A`, R258 -/
  | clrAtIYdbitA (d : Byte)
  /-- `CLR (SP+d).A`, R258 -/
  | clrAtSPdbitA (d : Byte)
  /-- `CLR (HL+d).A`, R258 -/
  | clrAtHLdbitA (d : Byte)
  /-- `CLR (PC+A).A`, R258 -/
  | clrAtPCAbitA
  /-- `CPL (x).A`, R272 -/
  | cplAtXbitA (x : Byte)
  /-- `CPL (vw).A`, R272 -/
  | cplAtVWbitA (addr : Word)
  /-- `CPL (DE).A`, R272 -/
  | cplAtDEbitA
  /-- `CPL (HL).A`, R272 -/
  | cplAtHLbitA
  /-- `CPL (IX).A`, R272 -/
  | cplAtIXbitA
  /-- `CPL (IY).A`, R272 -/
  | cplAtIYbitA
  /-- `CPL (+SP).A`, R272 -/
  | cplAtIncSPbitA
  /-- `CPL (HL+C).A`, R272 -/
  | cplAtHLCbitA
  /-- `CPL (IX+d).A`, R272 -/
  | cplAtIXdbitA (d : Byte)
  /-- `CPL (IY+d).A`, R272 -/
  | cplAtIYdbitA (d : Byte)
  /-- `CPL (SP+d).A`, R272 -/
  | cplAtSPdbitA (d : Byte)
  /-- `CPL (HL+d).A`, R272 -/
  | cplAtHLdbitA (d : Byte)
  /-- `CPL (PC+A).A`, R272 -/
  | cplAtPCAbitA
  /-- `LD CF,(x).A`, R263 -/
  | ldCFAtXbitA (x : Byte)
  /-- `LD CF,(vw).A`, R263 -/
  | ldCFAtVWbitA (addr : Word)
  /-- `LD CF,(DE).A`, R263 -/
  | ldCFAtDEbitA
  /-- `LD CF,(HL).A`, R263 -/
  | ldCFAtHLbitA
  /-- `LD CF,(IX).A`, R263 -/
  | ldCFAtIXbitA
  /-- `LD CF,(IY).A`, R263 -/
  | ldCFAtIYbitA
  /-- `LD CF,(+SP).A`, R263 -/
  | ldCFAtIncSPbitA
  /-- `LD CF,(HL+C).A`, R263 -/
  | ldCFAtHLCbitA
  /-- `LD CF,(IX+d).A`, R263 -/
  | ldCFAtIXdbitA (d : Byte)
  /-- `LD CF,(IY+d).A`, R263 -/
  | ldCFAtIYdbitA (d : Byte)
  /-- `LD CF,(SP+d).A`, R263 -/
  | ldCFAtSPdbitA (d : Byte)
  /-- `LD CF,(HL+d).A`, R263 -/
  | ldCFAtHLdbitA (d : Byte)
  /-- `LD CF,(PC+A).A`, R263 -/
  | ldCFAtPCAbitA
  /-- `TEST (x).A`, R264 -/
  | testAtXbitA (x : Byte)
  /-- `TEST (vw).A`, R264 -/
  | testAtVWbitA (addr : Word)
  /-- `TEST (DE).A`, R264 -/
  | testAtDEbitA
  /-- `TEST (HL).A`, R264 -/
  | testAtHLbitA
  /-- `TEST (IX).A`, R264 -/
  | testAtIXbitA
  /-- `TEST (IY).A`, R264 -/
  | testAtIYbitA
  /-- `TEST (+SP).A`, R264 -/
  | testAtIncSPbitA
  /-- `TEST (HL+C).A`, R264 -/
  | testAtHLCbitA
  /-- `TEST (IX+d).A`, R264 -/
  | testAtIXdbitA (d : Byte)
  /-- `TEST (IY+d).A`, R264 -/
  | testAtIYdbitA (d : Byte)
  /-- `TEST (SP+d).A`, R264 -/
  | testAtSPdbitA (d : Byte)
  /-- `TEST (HL+d).A`, R264 -/
  | testAtHLdbitA (d : Byte)
  /-- `TEST (PC+A).A`, R264 -/
  | testAtPCAbitA
  /-- `CALL (x)`, R325 -/
  | callAtX (x : Byte)
  /-- `CALL (vw)`, R325 -/
  | callAtVW (addr : Word)
  /-- `CALL (DE)`, R325 -/
  | callAtDE
  /-- `CALL (HL)`, R325 -/
  | callAtHL
  /-- `CALL (IX)`, R325 -/
  | callAtIX
  /-- `CALL (IY)`, R325 -/
  | callAtIY
  /-- `CALL (+SP)`, R326 -/
  | callAtIncSP
  /-- `CALL (HL+C)`, R325 -/
  | callAtHLC
  /-- `CALL (IX+d)`, R325 -/
  | callAtIXd (d : Byte)
  /-- `CALL (IY+d)`, R325 -/
  | callAtIYd (d : Byte)
  /-- `CALL (SP+d)`, R325 -/
  | callAtSPd (d : Byte)
  /-- `CALL (HL+d)`, R325 -/
  | callAtHLd (d : Byte)
  /-- `CALL (PC+A)`, R325 -/
  | callAtPCA
  /-- `JP (x)`, R299 -/
  | jpAtX (x : Byte)
  /-- `JP (vw)`, R299 -/
  | jpAtVW (addr : Word)
  /-- `JP (DE)`, R299 -/
  | jpAtDE
  /-- `JP (HL)`, R299 -/
  | jpAtHL
  /-- `JP (IX)`, R299 -/
  | jpAtIX
  /-- `JP (IY)`, R299 -/
  | jpAtIY
  /-- `JP (+SP)`, R299 -/
  | jpAtIncSP
  /-- `JP (HL+C)`, R299 -/
  | jpAtHLC
  /-- `JP (IX+d)`, R299 -/
  | jpAtIXd (d : Byte)
  /-- `JP (IY+d)`, R299 -/
  | jpAtIYd (d : Byte)
  /-- `JP (SP+d)`, R299 -/
  | jpAtSPd (d : Byte)
  /-- `JP (HL+d)`, R299 -/
  | jpAtHLd (d : Byte)
  /-- `JP (PC+A)`, R299 -/
  | jpAtPCA
  /-- `LD (x),rr`, R136 -/
  | ldAtXRR (x : Byte) (rr : Reg16)
  /-- `LD (x),r`, R135 -/
  | ldAtXR (x : Byte) (r : Reg8)
  /-- `LD (x),n`, R141 -/
  | ldAtXNLong (x : Byte) (n : Byte)
  /-- `LD (vw),rr`, R136 -/
  | ldAtVWRR (addr : Word) (rr : Reg16)
  /-- `LD (vw),r`, R135 -/
  | ldAtVWR (addr : Word) (r : Reg8)
  /-- `LD (vw),n`, R141 -/
  | ldAtVWN (addr : Word) (n : Byte)
  /-- `LD (DE),rr`, R136 -/
  | ldAtDERR (rr : Reg16)
  /-- `LD (DE),r`, R135 -/
  | ldAtDER (r : Reg8)
  /-- `LD (DE),n`, R141 -/
  | ldAtDEN (n : Byte)
  /-- `LD (HL),rr`, R136 -/
  | ldAtHLRR (rr : Reg16)
  /-- `LD (HL),r`, R135 -/
  | ldAtHLR (r : Reg8)
  /-- `LD (HL),n`, R141 -/
  | ldAtHLNLong (n : Byte)
  /-- `LD (IX),rr`, R136 -/
  | ldAtIXRR (rr : Reg16)
  /-- `LD (IX),r`, R135 -/
  | ldAtIXR (r : Reg8)
  /-- `LD (IX),n`, R141 -/
  | ldAtIXN (n : Byte)
  /-- `LD (IY),rr`, R136 -/
  | ldAtIYRR (rr : Reg16)
  /-- `LD (IY),r`, R135 -/
  | ldAtIYR (r : Reg8)
  /-- `LD (IY),n`, R141 -/
  | ldAtIYN (n : Byte)
  /-- `LD (SP-),rr`, R137 -/
  | ldAtSPDecRR (rr : Reg16)
  /-- `LD (SP-),r`, R135 -/
  | ldAtSPDecR (r : Reg8)
  /-- `LD (SP-),n`, R141 -/
  | ldAtSPDecN (n : Byte)
  /-- `LD (HL+C),rr`, R136 -/
  | ldAtHLCRR (rr : Reg16)
  /-- `LD (HL+C),r`, R135 -/
  | ldAtHLCR (r : Reg8)
  /-- `LD (HL+C),n`, R141 -/
  | ldAtHLCN (n : Byte)
  /-- `LD (IX+d),rr`, R136 -/
  | ldAtIXdRR (d : Byte) (rr : Reg16)
  /-- `LD (IX+d),r`, R135 -/
  | ldAtIXdR (d : Byte) (r : Reg8)
  /-- `LD (IX+d),n`, R141 -/
  | ldAtIXdN (d : Byte) (n : Byte)
  /-- `LD (IY+d),rr`, R136 -/
  | ldAtIYdRR (d : Byte) (rr : Reg16)
  /-- `LD (IY+d),r`, R135 -/
  | ldAtIYdR (d : Byte) (r : Reg8)
  /-- `LD (IY+d),n`, R141 -/
  | ldAtIYdN (d : Byte) (n : Byte)
  /-- `LD (SP+d),rr`, R136 -/
  | ldAtSPdRR (d : Byte) (rr : Reg16)
  /-- `LD (SP+d),r`, R135 -/
  | ldAtSPdR (d : Byte) (r : Reg8)
  /-- `LD (SP+d),n`, R141 -/
  | ldAtSPdN (d : Byte) (n : Byte)
  /-- `LD (HL+d),rr`, R136 -/
  | ldAtHLdRR (d : Byte) (rr : Reg16)
  /-- `LD (HL+d),r`, R135 -/
  | ldAtHLdR (d : Byte) (r : Reg8)
  /-- `LD (HL+d),n`, R141 -/
  | ldAtHLdN (d : Byte) (n : Byte)
deriving DecidableEq, Repr

end Sys2Proof
end

