-- ==== Sys2Proof/WellFormed.lean ====
section
/-!
DEFINITION. Which instructions have an encoding. The operand types leave one thing to check: register code 7
(`hlAlt`, HL's second name, R23) is not available in the forms whose opcode it would turn into another
instruction or an undefined code (the `exclude` column of spec/opcode_table.json).
-/

namespace Sys2Proof

/-- The register codes 0..6 (R23). -/
def Reg16.below7 (r : Reg16) : Bool :=
  match r with
  | .hlAlt => false
  | .wa | .bc | .de | .hl | .ix | .iy | .sp => true

/-- The instruction has an encoding. -/
def Instr.wf (i : Instr) : Bool :=
  match i with
  | .nop => true
  | .clrCF => true
  | .setCF => true
  | .cplCF => true
  | .cmpAtXN _ _ => true
  | .ldwAtXMN _ _ => true
  | .ldwAtHLMN _ => true
  | .ldAtXN _ _ => true
  | .ldAtHLN _ => true
  | .ldAAtX _ => true
  | .ldAAtHL => true
  | .ldAtXA _ => true
  | .ldAtHLA => true
  | .ldAR _ => true
  | .ldRN _ _ => true
  | .incR _ => true
  | .decR _ => true
  | .incRR rr => rr.below7
  | .ldSPAddD _ => true
  | .decRR rr => rr.below7
  | .ldSPSubD _ => true
  | .ldRA _ => true
  | .ldRRMN rr _ => rr.below7
  | .pushRR _ => true
  | .ldCFAtXb _ _ => true
  | .testAtXb _ _ => true
  | .addcAN _ => true
  | .addAN _ => true
  | .subbAN _ => true
  | .subAN _ => true
  | .andAN _ => true
  | .xorAN _ => true
  | .orAN _ => true
  | .cmpAN _ => true
  | .callvN _ => true
  | .jrsT _ => true
  | .jrsF _ => true
  | .setAtXb _ _ => true
  | .ei => true
  | .clrAtXb _ _ => true
  | .di => true
  | .popRR _ => true
  | .jrZ _ => true
  | .jrNZ _ => true
  | .jrCS _ => true
  | .jrCC _ => true
  | .jrLE _ => true
  | .jrGT _ => true
  | .jrT _ => true
  | .jrF _ => true
  | .ldRBS0 => true
  | .ldRBS1 => true
  | .ret => true
  | .reti => true
  | .jrA _ => true
  | .callMN _ => true
  | .jpMN _ => true
  | .swi => true
  | .addcRG _ _ => true
  | .addcGN _ _ => true
  | .addcGGMN _ _ => true
  | .addcRRGG _ _ => true
  | .addRG _ _ => true
  | .addGN _ _ => true
  | .addGGMN _ _ => true
  | .addRRGG _ _ => true
  | .subbRG _ _ => true
  | .subbGN _ _ => true
  | .subbGGMN _ _ => true
  | .subbRRGG _ _ => true
  | .subRG _ _ => true
  | .subGN _ _ => true
  | .subGGMN _ _ => true
  | .subRRGG _ _ => true
  | .andRG _ _ => true
  | .andGN _ _ => true
  | .andGGMN _ _ => true
  | .andRRGG _ _ => true
  | .xorRG _ _ => true
  | .xorGN _ _ => true
  | .xorGGMN _ _ => true
  | .xorRRGG _ _ => true
  | .orRG _ _ => true
  | .orGN _ _ => true
  | .orGGMN _ _ => true
  | .orRRGG _ _ => true
  | .cmpRG _ _ => true
  | .cmpGN _ _ => true
  | .cmpGGMN _ _ => true
  | .cmpRRGG _ _ => true
  | .ldRG _ _ => true
  | .ldRRGG rr _ => rr.below7
  | .xorCFGb _ _ => true
  | .ldCFGb _ _ => true
  | .testGb _ _ => true
  | .xchRG _ _ => true
  | .xchRRGG rr _ => rr.below7
  | .setGb _ _ => true
  | .clrGb _ _ => true
  | .jrM _ => true
  | .jrP _ => true
  | .jrSLT _ => true
  | .jrSGE _ => true
  | .jrSLE _ => true
  | .jrSGT _ => true
  | .jrVS _ => true
  | .jrVC _ => true
  | .pushIX => true
  | .pushIY => true
  | .popIX => true
  | .popIY => true
  | .daaG _ => true
  | .dasG _ => true
  | .pushPSW => true
  | .popPSW => true
  | .ldPSWN _ => true
  | .cplGb _ _ => true
  | .ldGbCF _ _ => true
  | .shlcaGG _ => true
  | .shrcaGG _ => true
  | .mulWA => true
  | .mulBC => true
  | .mulDE => true
  | .mulHL => true
  | .divWAC => true
  | .divDEC => true
  | .divHLC => true
  | .shlcG _ => true
  | .shrcG _ => true
  | .rolcG _ => true
  | .rorcG _ => true
  | .negCSGG _ => true
  | .retn => true
  | .callGG _ => true
  | .jpGG _ => true
  | .swapG _ => true
  | .addcRAtX _ _ => true
  | .addcRAtVW _ _ => true
  | .addcRAtDE _ => true
  | .addcRAtHL _ => true
  | .addcRAtIX _ => true
  | .addcRAtIY _ => true
  | .addcRAtIncSP _ => true
  | .addcRAtHLC _ => true
  | .addcRAtIXd _ _ => true
  | .addcRAtIYd _ _ => true
  | .addcRAtSPd _ _ => true
  | .addcRAtHLd _ _ => true
  | .addcRAtPCA _ => true
  | .addcAtXN _ _ => true
  | .addcAtVWN _ _ => true
  | .addcAtDEN _ => true
  | .addcAtHLN _ => true
  | .addcAtIXN _ => true
  | .addcAtIYN _ => true
  | .addcAtIncSPN _ => true
  | .addcAtHLCN _ => true
  | .addcAtIXdN _ _ => true
  | .addcAtIYdN _ _ => true
  | .addcAtSPdN _ _ => true
  | .addcAtHLdN _ _ => true
  | .addcAtPCAN _ => true
  | .addcRRAtX _ _ => true
  | .addcRRAtVW _ _ => true
  | .addcRRAtDE _ => true
  | .addcRRAtHL _ => true
  | .addcRRAtIX _ => true
  | .addcRRAtIY _ => true
  | .addcRRAtIncSP _ => true
  | .addcRRAtHLC _ => true
  | .addcRRAtIXd _ _ => true
  | .addcRRAtIYd _ _ => true
  | .addcRRAtSPd _ _ => true
  | .addcRRAtHLd _ _ => true
  | .addcRRAtPCA _ => true
  | .addRAtX _ _ => true
  | .addRAtVW _ _ => true
  | .addRAtDE _ => true
  | .addRAtHL _ => true
  | .addRAtIX _ => true
  | .addRAtIY _ => true
  | .addRAtIncSP _ => true
  | .addRAtHLC _ => true
  | .addRAtIXd _ _ => true
  | .addRAtIYd _ _ => true
  | .addRAtSPd _ _ => true
  | .addRAtHLd _ _ => true
  | .addRAtPCA _ => true
  | .addAtXN _ _ => true
  | .addAtVWN _ _ => true
  | .addAtDEN _ => true
  | .addAtHLN _ => true
  | .addAtIXN _ => true
  | .addAtIYN _ => true
  | .addAtIncSPN _ => true
  | .addAtHLCN _ => true
  | .addAtIXdN _ _ => true
  | .addAtIYdN _ _ => true
  | .addAtSPdN _ _ => true
  | .addAtHLdN _ _ => true
  | .addAtPCAN _ => true
  | .addRRAtX _ _ => true
  | .addRRAtVW _ _ => true
  | .addRRAtDE _ => true
  | .addRRAtHL _ => true
  | .addRRAtIX _ => true
  | .addRRAtIY _ => true
  | .addRRAtIncSP _ => true
  | .addRRAtHLC _ => true
  | .addRRAtIXd _ _ => true
  | .addRRAtIYd _ _ => true
  | .addRRAtSPd _ _ => true
  | .addRRAtHLd _ _ => true
  | .addRRAtPCA _ => true
  | .subbRAtX _ _ => true
  | .subbRAtVW _ _ => true
  | .subbRAtDE _ => true
  | .subbRAtHL _ => true
  | .subbRAtIX _ => true
  | .subbRAtIY _ => true
  | .subbRAtIncSP _ => true
  | .subbRAtHLC _ => true
  | .subbRAtIXd _ _ => true
  | .subbRAtIYd _ _ => true
  | .subbRAtSPd _ _ => true
  | .subbRAtHLd _ _ => true
  | .subbRAtPCA _ => true
  | .subbAtXN _ _ => true
  | .subbAtVWN _ _ => true
  | .subbAtDEN _ => true
  | .subbAtHLN _ => true
  | .subbAtIXN _ => true
  | .subbAtIYN _ => true
  | .subbAtIncSPN _ => true
  | .subbAtHLCN _ => true
  | .subbAtIXdN _ _ => true
  | .subbAtIYdN _ _ => true
  | .subbAtSPdN _ _ => true
  | .subbAtHLdN _ _ => true
  | .subbAtPCAN _ => true
  | .subbRRAtX _ _ => true
  | .subbRRAtVW _ _ => true
  | .subbRRAtDE _ => true
  | .subbRRAtHL _ => true
  | .subbRRAtIX _ => true
  | .subbRRAtIY _ => true
  | .subbRRAtIncSP _ => true
  | .subbRRAtHLC _ => true
  | .subbRRAtIXd _ _ => true
  | .subbRRAtIYd _ _ => true
  | .subbRRAtSPd _ _ => true
  | .subbRRAtHLd _ _ => true
  | .subbRRAtPCA _ => true
  | .subRAtX _ _ => true
  | .subRAtVW _ _ => true
  | .subRAtDE _ => true
  | .subRAtHL _ => true
  | .subRAtIX _ => true
  | .subRAtIY _ => true
  | .subRAtIncSP _ => true
  | .subRAtHLC _ => true
  | .subRAtIXd _ _ => true
  | .subRAtIYd _ _ => true
  | .subRAtSPd _ _ => true
  | .subRAtHLd _ _ => true
  | .subRAtPCA _ => true
  | .subAtXN _ _ => true
  | .subAtVWN _ _ => true
  | .subAtDEN _ => true
  | .subAtHLN _ => true
  | .subAtIXN _ => true
  | .subAtIYN _ => true
  | .subAtIncSPN _ => true
  | .subAtHLCN _ => true
  | .subAtIXdN _ _ => true
  | .subAtIYdN _ _ => true
  | .subAtSPdN _ _ => true
  | .subAtHLdN _ _ => true
  | .subAtPCAN _ => true
  | .subRRAtX _ _ => true
  | .subRRAtVW _ _ => true
  | .subRRAtDE _ => true
  | .subRRAtHL _ => true
  | .subRRAtIX _ => true
  | .subRRAtIY _ => true
  | .subRRAtIncSP _ => true
  | .subRRAtHLC _ => true
  | .subRRAtIXd _ _ => true
  | .subRRAtIYd _ _ => true
  | .subRRAtSPd _ _ => true
  | .subRRAtHLd _ _ => true
  | .subRRAtPCA _ => true
  | .andRAtX _ _ => true
  | .andRAtVW _ _ => true
  | .andRAtDE _ => true
  | .andRAtHL _ => true
  | .andRAtIX _ => true
  | .andRAtIY _ => true
  | .andRAtIncSP _ => true
  | .andRAtHLC _ => true
  | .andRAtIXd _ _ => true
  | .andRAtIYd _ _ => true
  | .andRAtSPd _ _ => true
  | .andRAtHLd _ _ => true
  | .andRAtPCA _ => true
  | .andAtXN _ _ => true
  | .andAtVWN _ _ => true
  | .andAtDEN _ => true
  | .andAtHLN _ => true
  | .andAtIXN _ => true
  | .andAtIYN _ => true
  | .andAtIncSPN _ => true
  | .andAtHLCN _ => true
  | .andAtIXdN _ _ => true
  | .andAtIYdN _ _ => true
  | .andAtSPdN _ _ => true
  | .andAtHLdN _ _ => true
  | .andAtPCAN _ => true
  | .andRRAtX _ _ => true
  | .andRRAtVW _ _ => true
  | .andRRAtDE _ => true
  | .andRRAtHL _ => true
  | .andRRAtIX _ => true
  | .andRRAtIY _ => true
  | .andRRAtIncSP _ => true
  | .andRRAtHLC _ => true
  | .andRRAtIXd _ _ => true
  | .andRRAtIYd _ _ => true
  | .andRRAtSPd _ _ => true
  | .andRRAtHLd _ _ => true
  | .andRRAtPCA _ => true
  | .xorRAtX _ _ => true
  | .xorRAtVW _ _ => true
  | .xorRAtDE _ => true
  | .xorRAtHL _ => true
  | .xorRAtIX _ => true
  | .xorRAtIY _ => true
  | .xorRAtIncSP _ => true
  | .xorRAtHLC _ => true
  | .xorRAtIXd _ _ => true
  | .xorRAtIYd _ _ => true
  | .xorRAtSPd _ _ => true
  | .xorRAtHLd _ _ => true
  | .xorRAtPCA _ => true
  | .xorAtXN _ _ => true
  | .xorAtVWN _ _ => true
  | .xorAtDEN _ => true
  | .xorAtHLN _ => true
  | .xorAtIXN _ => true
  | .xorAtIYN _ => true
  | .xorAtIncSPN _ => true
  | .xorAtHLCN _ => true
  | .xorAtIXdN _ _ => true
  | .xorAtIYdN _ _ => true
  | .xorAtSPdN _ _ => true
  | .xorAtHLdN _ _ => true
  | .xorAtPCAN _ => true
  | .xorRRAtX _ _ => true
  | .xorRRAtVW _ _ => true
  | .xorRRAtDE _ => true
  | .xorRRAtHL _ => true
  | .xorRRAtIX _ => true
  | .xorRRAtIY _ => true
  | .xorRRAtIncSP _ => true
  | .xorRRAtHLC _ => true
  | .xorRRAtIXd _ _ => true
  | .xorRRAtIYd _ _ => true
  | .xorRRAtSPd _ _ => true
  | .xorRRAtHLd _ _ => true
  | .xorRRAtPCA _ => true
  | .orRAtX _ _ => true
  | .orRAtVW _ _ => true
  | .orRAtDE _ => true
  | .orRAtHL _ => true
  | .orRAtIX _ => true
  | .orRAtIY _ => true
  | .orRAtIncSP _ => true
  | .orRAtHLC _ => true
  | .orRAtIXd _ _ => true
  | .orRAtIYd _ _ => true
  | .orRAtSPd _ _ => true
  | .orRAtHLd _ _ => true
  | .orRAtPCA _ => true
  | .orAtXN _ _ => true
  | .orAtVWN _ _ => true
  | .orAtDEN _ => true
  | .orAtHLN _ => true
  | .orAtIXN _ => true
  | .orAtIYN _ => true
  | .orAtIncSPN _ => true
  | .orAtHLCN _ => true
  | .orAtIXdN _ _ => true
  | .orAtIYdN _ _ => true
  | .orAtSPdN _ _ => true
  | .orAtHLdN _ _ => true
  | .orAtPCAN _ => true
  | .orRRAtX _ _ => true
  | .orRRAtVW _ _ => true
  | .orRRAtDE _ => true
  | .orRRAtHL _ => true
  | .orRRAtIX _ => true
  | .orRRAtIY _ => true
  | .orRRAtIncSP _ => true
  | .orRRAtHLC _ => true
  | .orRRAtIXd _ _ => true
  | .orRRAtIYd _ _ => true
  | .orRRAtSPd _ _ => true
  | .orRRAtHLd _ _ => true
  | .orRRAtPCA _ => true
  | .cmpRAtX _ _ => true
  | .cmpRAtVW _ _ => true
  | .cmpRAtDE _ => true
  | .cmpRAtHL _ => true
  | .cmpRAtIX _ => true
  | .cmpRAtIY _ => true
  | .cmpRAtIncSP _ => true
  | .cmpRAtHLC _ => true
  | .cmpRAtIXd _ _ => true
  | .cmpRAtIYd _ _ => true
  | .cmpRAtSPd _ _ => true
  | .cmpRAtHLd _ _ => true
  | .cmpRAtPCA _ => true
  | .cmpAtXNLong _ _ => true
  | .cmpAtVWN _ _ => true
  | .cmpAtDEN _ => true
  | .cmpAtHLN _ => true
  | .cmpAtIXN _ => true
  | .cmpAtIYN _ => true
  | .cmpAtIncSPN _ => true
  | .cmpAtHLCN _ => true
  | .cmpAtIXdN _ _ => true
  | .cmpAtIYdN _ _ => true
  | .cmpAtSPdN _ _ => true
  | .cmpAtHLdN _ _ => true
  | .cmpAtPCAN _ => true
  | .cmpRRAtX _ _ => true
  | .cmpRRAtVW _ _ => true
  | .cmpRRAtDE _ => true
  | .cmpRRAtHL _ => true
  | .cmpRRAtIX _ => true
  | .cmpRRAtIY _ => true
  | .cmpRRAtIncSP _ => true
  | .cmpRRAtHLC _ => true
  | .cmpRRAtIXd _ _ => true
  | .cmpRRAtIYd _ _ => true
  | .cmpRRAtSPd _ _ => true
  | .cmpRRAtHLd _ _ => true
  | .cmpRRAtPCA _ => true
  | .ldRAtX _ _ => true
  | .ldRAtVW _ _ => true
  | .ldRAtDE _ => true
  | .ldRAtHL _ => true
  | .ldRAtIX _ => true
  | .ldRAtIY _ => true
  | .ldRAtIncSP _ => true
  | .ldRAtHLC _ => true
  | .ldRAtIXd _ _ => true
  | .ldRAtIYd _ _ => true
  | .ldRAtSPd _ _ => true
  | .ldRAtHLd _ _ => true
  | .ldRAtPCA _ => true
  | .ldRRAtX rr _ => rr.below7
  | .ldRRAtVW rr _ => rr.below7
  | .ldRRAtDE rr => rr.below7
  | .ldRRAtHL rr => rr.below7
  | .ldRRAtIX rr => rr.below7
  | .ldRRAtIY rr => rr.below7
  | .ldRRAtIncSP rr => rr.below7
  | .ldRRAtHLC rr => rr.below7
  | .ldRRAtIXd rr _ => rr.below7
  | .ldRRAtIYd rr _ => rr.below7
  | .ldRRAtSPd rr _ => rr.below7
  | .ldRRAtHLd rr _ => rr.below7
  | .ldRRAtPCA rr => rr.below7
  | .xorCFAtXb _ _ => true
  | .xorCFAtVWb _ _ => true
  | .xorCFAtDEb _ => true
  | .xorCFAtHLb _ => true
  | .xorCFAtIXb _ => true
  | .xorCFAtIYb _ => true
  | .xorCFAtIncSPb _ => true
  | .xorCFAtHLCb _ => true
  | .xorCFAtIXdb _ _ => true
  | .xorCFAtIYdb _ _ => true
  | .xorCFAtSPdb _ _ => true
  | .xorCFAtHLdb _ _ => true
  | .xorCFAtPCAb _ => true
  | .ldCFAtXbLong _ _ => true
  | .ldCFAtVWb _ _ => true
  | .ldCFAtDEb _ => true
  | .ldCFAtHLb _ => true
  | .ldCFAtIXb _ => true
  | .ldCFAtIYb _ => true
  | .ldCFAtIncSPb _ => true
  | .ldCFAtHLCb _ => true
  | .ldCFAtIXdb _ _ => true
  | .ldCFAtIYdb _ _ => true
  | .ldCFAtSPdb _ _ => true
  | .ldCFAtHLdb _ _ => true
  | .ldCFAtPCAb _ => true
  | .testAtXbLong _ _ => true
  | .testAtVWb _ _ => true
  | .testAtDEb _ => true
  | .testAtHLb _ => true
  | .testAtIXb _ => true
  | .testAtIYb _ => true
  | .testAtIncSPb _ => true
  | .testAtHLCb _ => true
  | .testAtIXdb _ _ => true
  | .testAtIYdb _ _ => true
  | .testAtSPdb _ _ => true
  | .testAtHLdb _ _ => true
  | .testAtPCAb _ => true
  | .xchRAtX _ _ => true
  | .xchRAtVW _ _ => true
  | .xchRAtDE _ => true
  | .xchRAtHL _ => true
  | .xchRAtIX _ => true
  | .xchRAtIY _ => true
  | .xchRAtIncSP _ => true
  | .xchRAtHLC _ => true
  | .xchRAtIXd _ _ => true
  | .xchRAtIYd _ _ => true
  | .xchRAtSPd _ _ => true
  | .xchRAtHLd _ _ => true
  | .xchRAtPCA _ => true
  | .setAtXbLong _ _ => true
  | .setAtVWb _ _ => true
  | .setAtDEb _ => true
  | .setAtHLb _ => true
  | .setAtIXb _ => true
  | .setAtIYb _ => true
  | .setAtIncSPb _ => true
  | .setAtHLCb _ => true
  | .setAtIXdb _ _ => true
  | .setAtIYdb _ _ => true
  | .setAtSPdb _ _ => true
  | .setAtHLdb _ _ => true
  | .setAtPCAb _ => true
  | .clrAtXbLong _ _ => true
  | .clrAtVWb _ _ => true
  | .clrAtDEb _ => true
  | .clrAtHLb _ => true
  | .clrAtIXb _ => true
  | .clrAtIYb _ => true
  | .clrAtIncSPb _ => true
  | .clrAtHLCb _ => true
  | .clrAtIXdb _ _ => true
  | .clrAtIYdb _ _ => true
  | .clrAtSPdb _ _ => true
  | .clrAtHLdb _ _ => true
  | .clrAtPCAb _ => true
  | .xchRRAtX _ _ => true
  | .xchRRAtVW _ _ => true
  | .xchRRAtDE _ => true
  | .xchRRAtHL _ => true
  | .xchRRAtIX _ => true
  | .xchRRAtIY _ => true
  | .xchRRAtIncSP _ => true
  | .xchRRAtHLC _ => true
  | .xchRRAtIXd _ _ => true
  | .xchRRAtIYd _ _ => true
  | .xchRRAtSPd _ _ => true
  | .xchRRAtHLd _ _ => true
  | .xchRRAtPCA _ => true
  | .cplAtXb _ _ => true
  | .cplAtVWb _ _ => true
  | .cplAtDEb _ => true
  | .cplAtHLb _ => true
  | .cplAtIXb _ => true
  | .cplAtIYb _ => true
  | .cplAtIncSPb _ => true
  | .cplAtHLCb _ => true
  | .cplAtIXdb _ _ => true
  | .cplAtIYdb _ _ => true
  | .cplAtSPdb _ _ => true
  | .cplAtHLdb _ _ => true
  | .cplAtPCAb _ => true
  | .ldAtXbCF _ _ => true
  | .ldAtVWbCF _ _ => true
  | .ldAtDEbCF _ => true
  | .ldAtHLbCF _ => true
  | .ldAtIXbCF _ => true
  | .ldAtIYbCF _ => true
  | .ldAtIncSPbCF _ => true
  | .ldAtHLCbCF _ => true
  | .ldAtIXdbCF _ _ => true
  | .ldAtIYdbCF _ _ => true
  | .ldAtSPdbCF _ _ => true
  | .ldAtHLdbCF _ _ => true
  | .ldAtPCAbCF _ => true
  | .incAtX _ => true
  | .incAtVW _ => true
  | .incAtDE => true
  | .incAtHL => true
  | .incAtIX => true
  | .incAtIY => true
  | .incAtIncSP => true
  | .incAtHLC => true
  | .incAtIXd _ => true
  | .incAtIYd _ => true
  | .incAtSPd _ => true
  | .incAtHLd _ => true
  | .incAtPCA => true
  | .setAtXbitA _ => true
  | .setAtVWbitA _ => true
  | .setAtDEbitA => true
  | .setAtHLbitA => true
  | .setAtIXbitA => true
  | .setAtIYbitA => true
  | .setAtIncSPbitA => true
  | .setAtHLCbitA => true
  | .setAtIXdbitA _ => true
  | .setAtIYdbitA _ => true
  | .setAtSPdbitA _ => true
  | .setAtHLdbitA _ => true
  | .setAtPCAbitA => true
  | .ldAtXbitACF _ => true
  | .ldAtVWbitACF _ => true
  | .ldAtDEbitACF => true
  | .ldAtHLbitACF => true
  | .ldAtIXbitACF => true
  | .ldAtIYbitACF => true
  | .ldAtIncSPbitACF => true
  | .ldAtHLCbitACF => true
  | .ldAtIXdbitACF _ => true
  | .ldAtIYdbitACF _ => true
  | .ldAtSPdbitACF _ => true
  | .ldAtHLdbitACF _ => true
  | .ldAtPCAbitACF => true
  | .roldAAtX _ => true
  | .roldAAtVW _ => true
  | .roldAAtDE => true
  | .roldAAtHL => true
  | .roldAAtIX => true
  | .roldAAtIY => true
  | .roldAAtIncSP => true
  | .roldAAtHLC => true
  | .roldAAtIXd _ => true
  | .roldAAtIYd _ => true
  | .roldAAtSPd _ => true
  | .roldAAtHLd _ => true
  | .roldAAtPCA => true
  | .rordAAtX _ => true
  | .rordAAtVW _ => true
  | .rordAAtDE => true
  | .rordAAtHL => true
  | .rordAAtIX => true
  | .rordAAtIY => true
  | .rordAAtIncSP => true
  | .rordAAtHLC => true
  | .rordAAtIXd _ => true
  | .rordAAtIYd _ => true
  | .rordAAtSPd _ => true
  | .rordAAtHLd _ => true
  | .rordAAtPCA => true
  | .decAtX _ => true
  | .decAtVW _ => true
  | .decAtDE => true
  | .decAtHL => true
  | .decAtIX => true
  | .decAtIY => true
  | .decAtIncSP => true
  | .decAtHLC => true
  | .decAtIXd _ => true
  | .decAtIYd _ => true
  | .decAtSPd _ => true
  | .decAtHLd _ => true
  | .decAtPCA => true
  | .clrAtXbitA _ => true
  | .clrAtVWbitA _ => true
  | .clrAtDEbitA => true
  | .clrAtHLbitA => true
  | .clrAtIXbitA => true
  | .clrAtIYbitA => true
  | .clrAtIncSPbitA => true
  | .clrAtHLCbitA => true
  | .clrAtIXdbitA _ => true
  | .clrAtIYdbitA _ => true
  | .clrAtSPdbitA _ => true
  | .clrAtHLdbitA _ => true
  | .clrAtPCAbitA => true
  | .cplAtXbitA _ => true
  | .cplAtVWbitA _ => true
  | .cplAtDEbitA => true
  | .cplAtHLbitA => true
  | .cplAtIXbitA => true
  | .cplAtIYbitA => true
  | .cplAtIncSPbitA => true
  | .cplAtHLCbitA => true
  | .cplAtIXdbitA _ => true
  | .cplAtIYdbitA _ => true
  | .cplAtSPdbitA _ => true
  | .cplAtHLdbitA _ => true
  | .cplAtPCAbitA => true
  | .ldCFAtXbitA _ => true
  | .ldCFAtVWbitA _ => true
  | .ldCFAtDEbitA => true
  | .ldCFAtHLbitA => true
  | .ldCFAtIXbitA => true
  | .ldCFAtIYbitA => true
  | .ldCFAtIncSPbitA => true
  | .ldCFAtHLCbitA => true
  | .ldCFAtIXdbitA _ => true
  | .ldCFAtIYdbitA _ => true
  | .ldCFAtSPdbitA _ => true
  | .ldCFAtHLdbitA _ => true
  | .ldCFAtPCAbitA => true
  | .testAtXbitA _ => true
  | .testAtVWbitA _ => true
  | .testAtDEbitA => true
  | .testAtHLbitA => true
  | .testAtIXbitA => true
  | .testAtIYbitA => true
  | .testAtIncSPbitA => true
  | .testAtHLCbitA => true
  | .testAtIXdbitA _ => true
  | .testAtIYdbitA _ => true
  | .testAtSPdbitA _ => true
  | .testAtHLdbitA _ => true
  | .testAtPCAbitA => true
  | .callAtX _ => true
  | .callAtVW _ => true
  | .callAtDE => true
  | .callAtHL => true
  | .callAtIX => true
  | .callAtIY => true
  | .callAtIncSP => true
  | .callAtHLC => true
  | .callAtIXd _ => true
  | .callAtIYd _ => true
  | .callAtSPd _ => true
  | .callAtHLd _ => true
  | .callAtPCA => true
  | .jpAtX _ => true
  | .jpAtVW _ => true
  | .jpAtDE => true
  | .jpAtHL => true
  | .jpAtIX => true
  | .jpAtIY => true
  | .jpAtIncSP => true
  | .jpAtHLC => true
  | .jpAtIXd _ => true
  | .jpAtIYd _ => true
  | .jpAtSPd _ => true
  | .jpAtHLd _ => true
  | .jpAtPCA => true
  | .ldAtXRR _ rr => rr.below7
  | .ldAtXR _ _ => true
  | .ldAtXNLong _ _ => true
  | .ldAtVWRR _ rr => rr.below7
  | .ldAtVWR _ _ => true
  | .ldAtVWN _ _ => true
  | .ldAtDERR rr => rr.below7
  | .ldAtDER _ => true
  | .ldAtDEN _ => true
  | .ldAtHLRR rr => rr.below7
  | .ldAtHLR _ => true
  | .ldAtHLNLong _ => true
  | .ldAtIXRR rr => rr.below7
  | .ldAtIXR _ => true
  | .ldAtIXN _ => true
  | .ldAtIYRR rr => rr.below7
  | .ldAtIYR _ => true
  | .ldAtIYN _ => true
  | .ldAtSPDecRR rr => rr.below7
  | .ldAtSPDecR _ => true
  | .ldAtSPDecN _ => true
  | .ldAtHLCRR rr => rr.below7
  | .ldAtHLCR _ => true
  | .ldAtHLCN _ => true
  | .ldAtIXdRR _ rr => rr.below7
  | .ldAtIXdR _ _ => true
  | .ldAtIXdN _ _ => true
  | .ldAtIYdRR _ rr => rr.below7
  | .ldAtIYdR _ _ => true
  | .ldAtIYdN _ _ => true
  | .ldAtSPdRR _ rr => rr.below7
  | .ldAtSPdR _ _ => true
  | .ldAtSPdN _ _ => true
  | .ldAtHLdRR _ rr => rr.below7
  | .ldAtHLdR _ _ => true
  | .ldAtHLdN _ _ => true

end Sys2Proof
end

