-- ==== Sys2Proof/Decode.lean ====
section
/-!
DEFINITION. Decoding and encoding (spec 30_encoding.md). `decode` reads an instruction from the five bytes at
an address or refuses them by name (R101, R110); `encode` writes the bytes of an instruction from the same
maps (R90 to R93). Both go through `Form`, the operand form of an instruction with its addressing mode as data.
-/

namespace Sys2Proof

open Machine

/-- An operand form: the rows of the table that differ only in the operation or the addressing mode have one
form. It is the cell of the code maps that the bytes select (R90 to R93). -/
inductive Form where
  /-- R335 -/
  | nop
  /-- R281 -/
  | clrCF
  /-- R280 -/
  | setCF
  /-- R282 -/
  | cplCF
  /-- R190 -/
  | cmpXN (x n : Byte)
  /-- R142 -/
  | ldwXMN (x : Byte) (mn : Word)
  /-- R143 -/
  | ldwHLMN (mn : Word)
  /-- R139 -/
  | ldXN (x n : Byte)
  /-- R140 -/
  | ldHLN (n : Byte)
  /-- R125 -/
  | ldAX (x : Byte)
  /-- R126 -/
  | ldAHL
  /-- R129 -/
  | ldXA (x : Byte)
  /-- R130 -/
  | ldHLA
  /-- R121 -/
  | ldAR (r : Reg8)
  /-- R133 -/
  | ldRN (r : Reg8) (n : Byte)
  /-- R200 -/
  | incR (r : Reg8)
  /-- R203 -/
  | decR (r : Reg8)
  /-- R201 -/
  | incRR (rr : Reg16)
  /-- R152 -/
  | ldSPAdd (d : Byte)
  /-- R204 -/
  | decRR (rr : Reg16)
  /-- R153 -/
  | ldSPSub (d : Byte)
  /-- R122 -/
  | ldRA (r : Reg8)
  /-- R134 -/
  | ldRRMN (rr : Reg16) (mn : Word)
  /-- R144 -/
  | pushPair (p : Pair)
  /-- R261 -/
  | ldCFXB (x : Byte) (b : BitNo)
  /-- R185 -/
  | aluAN (op : AluOp) (n : Byte)
  /-- R321 -/
  | callv (n : BitVec 4)
  /-- R292, R293 -/
  | jrs (sense : Bool) (d : BitVec 5)
  /-- R252 -/
  | setXB (x : Byte) (b : BitNo)
  /-- R256 -/
  | clrXB (x : Byte) (b : BitNo)
  /-- R145 -/
  | popPair (p : Pair)
  /-- R294 -/
  | jrCC (c : Cond) (d : Byte)
  /-- R151 -/
  | ldRBS (n : Bool)
  /-- R328 -/
  | ret
  /-- R329 -/
  | reti
  /-- R296 -/
  | jrA (d : Byte)
  /-- R322 -/
  | callMN (mn : Word)
  /-- R297 -/
  | jpMN (mn : Word)
  /-- R333 -/
  | swi
  /-- R187 -/
  | aluRG (op : AluOp) (r g : Reg8)
  /-- R186 -/
  | aluGN (op : AluOp) (g : Reg8) (n : Byte)
  /-- R192 -/
  | aluGGMN (op : AluOp) (gg : Reg16) (mn : Word)
  /-- R193 -/
  | aluRRGG (op : AluOp) (rr gg : Reg16)
  /-- R123 -/
  | ldRG (r g : Reg8)
  /-- R124 -/
  | ldRRGG (rr gg : Reg16)
  /-- R276 -/
  | xorCFGB (g : Reg8) (b : BitNo)
  /-- R260 -/
  | ldCFGB (g : Reg8) (b : BitNo)
  /-- R154 -/
  | xchRG (r g : Reg8)
  /-- R155 -/
  | xchRRGG (rr gg : Reg16)
  /-- R251, R255, R270 -/
  | bitGB (op : BitOp) (g : Reg8) (b : BitNo)
  /-- R295 -/
  | jrCCLong (c : CondLong) (d : Byte)
  /-- R146 -/
  | pushIndex (g : IndexReg)
  /-- R147 -/
  | popIndex (g : IndexReg)
  /-- R207 -/
  | daa (g : Reg8)
  /-- R208 -/
  | das (g : Reg8)
  /-- R148 -/
  | pushPSW
  /-- R149 -/
  | popPSW
  /-- R150 -/
  | ldPSW (n : Byte)
  /-- R265 -/
  | ldGBCF (g : Reg8) (b : BitNo)
  /-- R235, R236 -/
  | shift16 (op : Shift16) (gg : Reg16)
  /-- R210 -/
  | mul (p : Pair)
  /-- R211 -/
  | div (p : DivPair)
  /-- R231, R232, R233, R234 -/
  | shift8 (op : Shift8) (g : Reg8)
  /-- R212 -/
  | negCS (gg : Reg16)
  /-- R330 -/
  | retn
  /-- R323 -/
  | callGG (gg : Reg16)
  /-- R298 -/
  | jpGG (gg : Reg16)
  /-- R237 -/
  | swap (g : Reg8)
  /-- R188 -/
  | aluRSrc (op : AluOp) (r : Reg8) (m : Src)
  /-- R189 -/
  | aluSrcN (op : AluOp) (m : Src) (n : Byte)
  /-- R194 -/
  | aluRRSrc (op : AluOp) (rr : Reg16) (m : Src)
  /-- R127 -/
  | ldRSrc (r : Reg8) (m : Src)
  /-- R128 -/
  | ldRRSrc (rr : Reg16) (m : Src)
  /-- R277 -/
  | xorCFSrcB (m : Src) (b : BitNo)
  /-- R262 -/
  | ldCFSrcB (m : Src) (b : BitNo)
  /-- R156 -/
  | xchRSrc (r : Reg8) (m : Src)
  /-- R253, R257, R271 -/
  | bitSrcB (op : BitOp) (m : Src) (b : BitNo)
  /-- R157 -/
  | xchRRSrc (rr : Reg16) (m : Src)
  /-- R266 -/
  | ldSrcBCF (m : Src) (b : BitNo)
  /-- R202 -/
  | incSrc (m : Src)
  /-- R254, R258, R272 -/
  | bitSrcA (op : BitOp) (m : Src)
  /-- R267 -/
  | ldSrcACF (m : Src)
  /-- R238 -/
  | rold (m : Src)
  /-- R239 -/
  | rord (m : Src)
  /-- R205 -/
  | decSrc (m : Src)
  /-- R263 -/
  | ldCFSrcA (m : Src)
  /-- R325, R326 -/
  | callSrc (m : Src)
  /-- R299 -/
  | jpSrc (m : Src)
  /-- R136, R137 -/
  | ldDstRR (m : Dst) (rr : Reg16)
  /-- R135 -/
  | ldDstR (m : Dst) (r : Reg8)
  /-- R141 -/
  | ldDstN (m : Dst) (n : Byte)
deriving DecidableEq, Repr

/-- The form of an instruction, with its addressing mode as data. -/
def Instr.form (i : Instr) : Form :=
  match i with
  | .nop => .nop
  | .clrCF => .clrCF
  | .setCF => .setCF
  | .cplCF => .cplCF
  | .cmpAtXN x n => .cmpXN x n
  | .ldwAtXMN x mn => .ldwXMN x mn
  | .ldwAtHLMN mn => .ldwHLMN mn
  | .ldAtXN x n => .ldXN x n
  | .ldAtHLN n => .ldHLN n
  | .ldAAtX x => .ldAX x
  | .ldAAtHL => .ldAHL
  | .ldAtXA x => .ldXA x
  | .ldAtHLA => .ldHLA
  | .ldAR r => .ldAR r
  | .ldRN r n => .ldRN r n
  | .incR r => .incR r
  | .decR r => .decR r
  | .incRR rr => .incRR rr
  | .ldSPAddD d => .ldSPAdd d
  | .decRR rr => .decRR rr
  | .ldSPSubD d => .ldSPSub d
  | .ldRA r => .ldRA r
  | .ldRRMN rr mn => .ldRRMN rr mn
  | .pushRR p => .pushPair p
  | .ldCFAtXb x b => .ldCFXB x b
  | .testAtXb x b => .ldCFXB x b
  | .addcAN n => .aluAN .addc n
  | .addAN n => .aluAN .add n
  | .subbAN n => .aluAN .subb n
  | .subAN n => .aluAN .sub n
  | .andAN n => .aluAN .and n
  | .xorAN n => .aluAN .xor n
  | .orAN n => .aluAN .or n
  | .cmpAN n => .aluAN .cmp n
  | .callvN n => .callv n
  | .jrsT d => .jrs true d
  | .jrsF d => .jrs false d
  | .setAtXb x b => .setXB x b
  | .ei => .setXB (loByte Config.imfAddr) 0
  | .clrAtXb x b => .clrXB x b
  | .di => .clrXB (loByte Config.imfAddr) 0
  | .popRR p => .popPair p
  | .jrZ d => .jrCC .z d
  | .jrNZ d => .jrCC .nz d
  | .jrCS d => .jrCC .cs d
  | .jrCC d => .jrCC .cc d
  | .jrLE d => .jrCC .le d
  | .jrGT d => .jrCC .gt d
  | .jrT d => .jrCC .t d
  | .jrF d => .jrCC .f d
  | .ldRBS0 => .ldRBS false
  | .ldRBS1 => .ldRBS true
  | .ret => .ret
  | .reti => .reti
  | .jrA d => .jrA d
  | .callMN mn => .callMN mn
  | .jpMN mn => .jpMN mn
  | .swi => .swi
  | .addcRG r g => .aluRG .addc r g
  | .addcGN g n => .aluGN .addc g n
  | .addcGGMN gg mn => .aluGGMN .addc gg mn
  | .addcRRGG rr gg => .aluRRGG .addc rr gg
  | .addRG r g => .aluRG .add r g
  | .addGN g n => .aluGN .add g n
  | .addGGMN gg mn => .aluGGMN .add gg mn
  | .addRRGG rr gg => .aluRRGG .add rr gg
  | .subbRG r g => .aluRG .subb r g
  | .subbGN g n => .aluGN .subb g n
  | .subbGGMN gg mn => .aluGGMN .subb gg mn
  | .subbRRGG rr gg => .aluRRGG .subb rr gg
  | .subRG r g => .aluRG .sub r g
  | .subGN g n => .aluGN .sub g n
  | .subGGMN gg mn => .aluGGMN .sub gg mn
  | .subRRGG rr gg => .aluRRGG .sub rr gg
  | .andRG r g => .aluRG .and r g
  | .andGN g n => .aluGN .and g n
  | .andGGMN gg mn => .aluGGMN .and gg mn
  | .andRRGG rr gg => .aluRRGG .and rr gg
  | .xorRG r g => .aluRG .xor r g
  | .xorGN g n => .aluGN .xor g n
  | .xorGGMN gg mn => .aluGGMN .xor gg mn
  | .xorRRGG rr gg => .aluRRGG .xor rr gg
  | .orRG r g => .aluRG .or r g
  | .orGN g n => .aluGN .or g n
  | .orGGMN gg mn => .aluGGMN .or gg mn
  | .orRRGG rr gg => .aluRRGG .or rr gg
  | .cmpRG r g => .aluRG .cmp r g
  | .cmpGN g n => .aluGN .cmp g n
  | .cmpGGMN gg mn => .aluGGMN .cmp gg mn
  | .cmpRRGG rr gg => .aluRRGG .cmp rr gg
  | .ldRG r g => .ldRG r g
  | .ldRRGG rr gg => .ldRRGG rr gg
  | .xorCFGb g b => .xorCFGB g b
  | .ldCFGb g b => .ldCFGB g b
  | .testGb g b => .ldCFGB g b
  | .xchRG r g => .xchRG r g
  | .xchRRGG rr gg => .xchRRGG rr gg
  | .setGb g b => .bitGB .set g b
  | .clrGb g b => .bitGB .clr g b
  | .jrM d => .jrCCLong .m d
  | .jrP d => .jrCCLong .p d
  | .jrSLT d => .jrCCLong .slt d
  | .jrSGE d => .jrCCLong .sge d
  | .jrSLE d => .jrCCLong .sle d
  | .jrSGT d => .jrCCLong .sgt d
  | .jrVS d => .jrCCLong .vs d
  | .jrVC d => .jrCCLong .vc d
  | .pushIX => .pushIndex .ix
  | .pushIY => .pushIndex .iy
  | .popIX => .popIndex .ix
  | .popIY => .popIndex .iy
  | .daaG g => .daa g
  | .dasG g => .das g
  | .pushPSW => .pushPSW
  | .popPSW => .popPSW
  | .ldPSWN n => .ldPSW n
  | .cplGb g b => .bitGB .cpl g b
  | .ldGbCF g b => .ldGBCF g b
  | .shlcaGG gg => .shift16 .shlca gg
  | .shrcaGG gg => .shift16 .shrca gg
  | .mulWA => .mul .wa
  | .mulBC => .mul .bc
  | .mulDE => .mul .de
  | .mulHL => .mul .hl
  | .divWAC => .div .wa
  | .divDEC => .div .de
  | .divHLC => .div .hl
  | .shlcG g => .shift8 .shlc g
  | .shrcG g => .shift8 .shrc g
  | .rolcG g => .shift8 .rolc g
  | .rorcG g => .shift8 .rorc g
  | .negCSGG gg => .negCS gg
  | .retn => .retn
  | .callGG gg => .callGG gg
  | .jpGG gg => .jpGG gg
  | .swapG g => .swap g
  | .addcRAtX r x => .aluRSrc .addc r (.x x)
  | .addcRAtVW r addr => .aluRSrc .addc r (.vw addr)
  | .addcRAtDE r => .aluRSrc .addc r .de
  | .addcRAtHL r => .aluRSrc .addc r .hl
  | .addcRAtIX r => .aluRSrc .addc r .ix
  | .addcRAtIY r => .aluRSrc .addc r .iy
  | .addcRAtIncSP r => .aluRSrc .addc r .incSP
  | .addcRAtHLC r => .aluRSrc .addc r .hlC
  | .addcRAtIXd r d => .aluRSrc .addc r (.ixd d)
  | .addcRAtIYd r d => .aluRSrc .addc r (.iyd d)
  | .addcRAtSPd r d => .aluRSrc .addc r (.spd d)
  | .addcRAtHLd r d => .aluRSrc .addc r (.hld d)
  | .addcRAtPCA r => .aluRSrc .addc r .pcA
  | .addcAtXN x n => .aluSrcN .addc (.x x) n
  | .addcAtVWN addr n => .aluSrcN .addc (.vw addr) n
  | .addcAtDEN n => .aluSrcN .addc .de n
  | .addcAtHLN n => .aluSrcN .addc .hl n
  | .addcAtIXN n => .aluSrcN .addc .ix n
  | .addcAtIYN n => .aluSrcN .addc .iy n
  | .addcAtIncSPN n => .aluSrcN .addc .incSP n
  | .addcAtHLCN n => .aluSrcN .addc .hlC n
  | .addcAtIXdN d n => .aluSrcN .addc (.ixd d) n
  | .addcAtIYdN d n => .aluSrcN .addc (.iyd d) n
  | .addcAtSPdN d n => .aluSrcN .addc (.spd d) n
  | .addcAtHLdN d n => .aluSrcN .addc (.hld d) n
  | .addcAtPCAN n => .aluSrcN .addc .pcA n
  | .addcRRAtX rr x => .aluRRSrc .addc rr (.x x)
  | .addcRRAtVW rr addr => .aluRRSrc .addc rr (.vw addr)
  | .addcRRAtDE rr => .aluRRSrc .addc rr .de
  | .addcRRAtHL rr => .aluRRSrc .addc rr .hl
  | .addcRRAtIX rr => .aluRRSrc .addc rr .ix
  | .addcRRAtIY rr => .aluRRSrc .addc rr .iy
  | .addcRRAtIncSP rr => .aluRRSrc .addc rr .incSP
  | .addcRRAtHLC rr => .aluRRSrc .addc rr .hlC
  | .addcRRAtIXd rr d => .aluRRSrc .addc rr (.ixd d)
  | .addcRRAtIYd rr d => .aluRRSrc .addc rr (.iyd d)
  | .addcRRAtSPd rr d => .aluRRSrc .addc rr (.spd d)
  | .addcRRAtHLd rr d => .aluRRSrc .addc rr (.hld d)
  | .addcRRAtPCA rr => .aluRRSrc .addc rr .pcA
  | .addRAtX r x => .aluRSrc .add r (.x x)
  | .addRAtVW r addr => .aluRSrc .add r (.vw addr)
  | .addRAtDE r => .aluRSrc .add r .de
  | .addRAtHL r => .aluRSrc .add r .hl
  | .addRAtIX r => .aluRSrc .add r .ix
  | .addRAtIY r => .aluRSrc .add r .iy
  | .addRAtIncSP r => .aluRSrc .add r .incSP
  | .addRAtHLC r => .aluRSrc .add r .hlC
  | .addRAtIXd r d => .aluRSrc .add r (.ixd d)
  | .addRAtIYd r d => .aluRSrc .add r (.iyd d)
  | .addRAtSPd r d => .aluRSrc .add r (.spd d)
  | .addRAtHLd r d => .aluRSrc .add r (.hld d)
  | .addRAtPCA r => .aluRSrc .add r .pcA
  | .addAtXN x n => .aluSrcN .add (.x x) n
  | .addAtVWN addr n => .aluSrcN .add (.vw addr) n
  | .addAtDEN n => .aluSrcN .add .de n
  | .addAtHLN n => .aluSrcN .add .hl n
  | .addAtIXN n => .aluSrcN .add .ix n
  | .addAtIYN n => .aluSrcN .add .iy n
  | .addAtIncSPN n => .aluSrcN .add .incSP n
  | .addAtHLCN n => .aluSrcN .add .hlC n
  | .addAtIXdN d n => .aluSrcN .add (.ixd d) n
  | .addAtIYdN d n => .aluSrcN .add (.iyd d) n
  | .addAtSPdN d n => .aluSrcN .add (.spd d) n
  | .addAtHLdN d n => .aluSrcN .add (.hld d) n
  | .addAtPCAN n => .aluSrcN .add .pcA n
  | .addRRAtX rr x => .aluRRSrc .add rr (.x x)
  | .addRRAtVW rr addr => .aluRRSrc .add rr (.vw addr)
  | .addRRAtDE rr => .aluRRSrc .add rr .de
  | .addRRAtHL rr => .aluRRSrc .add rr .hl
  | .addRRAtIX rr => .aluRRSrc .add rr .ix
  | .addRRAtIY rr => .aluRRSrc .add rr .iy
  | .addRRAtIncSP rr => .aluRRSrc .add rr .incSP
  | .addRRAtHLC rr => .aluRRSrc .add rr .hlC
  | .addRRAtIXd rr d => .aluRRSrc .add rr (.ixd d)
  | .addRRAtIYd rr d => .aluRRSrc .add rr (.iyd d)
  | .addRRAtSPd rr d => .aluRRSrc .add rr (.spd d)
  | .addRRAtHLd rr d => .aluRRSrc .add rr (.hld d)
  | .addRRAtPCA rr => .aluRRSrc .add rr .pcA
  | .subbRAtX r x => .aluRSrc .subb r (.x x)
  | .subbRAtVW r addr => .aluRSrc .subb r (.vw addr)
  | .subbRAtDE r => .aluRSrc .subb r .de
  | .subbRAtHL r => .aluRSrc .subb r .hl
  | .subbRAtIX r => .aluRSrc .subb r .ix
  | .subbRAtIY r => .aluRSrc .subb r .iy
  | .subbRAtIncSP r => .aluRSrc .subb r .incSP
  | .subbRAtHLC r => .aluRSrc .subb r .hlC
  | .subbRAtIXd r d => .aluRSrc .subb r (.ixd d)
  | .subbRAtIYd r d => .aluRSrc .subb r (.iyd d)
  | .subbRAtSPd r d => .aluRSrc .subb r (.spd d)
  | .subbRAtHLd r d => .aluRSrc .subb r (.hld d)
  | .subbRAtPCA r => .aluRSrc .subb r .pcA
  | .subbAtXN x n => .aluSrcN .subb (.x x) n
  | .subbAtVWN addr n => .aluSrcN .subb (.vw addr) n
  | .subbAtDEN n => .aluSrcN .subb .de n
  | .subbAtHLN n => .aluSrcN .subb .hl n
  | .subbAtIXN n => .aluSrcN .subb .ix n
  | .subbAtIYN n => .aluSrcN .subb .iy n
  | .subbAtIncSPN n => .aluSrcN .subb .incSP n
  | .subbAtHLCN n => .aluSrcN .subb .hlC n
  | .subbAtIXdN d n => .aluSrcN .subb (.ixd d) n
  | .subbAtIYdN d n => .aluSrcN .subb (.iyd d) n
  | .subbAtSPdN d n => .aluSrcN .subb (.spd d) n
  | .subbAtHLdN d n => .aluSrcN .subb (.hld d) n
  | .subbAtPCAN n => .aluSrcN .subb .pcA n
  | .subbRRAtX rr x => .aluRRSrc .subb rr (.x x)
  | .subbRRAtVW rr addr => .aluRRSrc .subb rr (.vw addr)
  | .subbRRAtDE rr => .aluRRSrc .subb rr .de
  | .subbRRAtHL rr => .aluRRSrc .subb rr .hl
  | .subbRRAtIX rr => .aluRRSrc .subb rr .ix
  | .subbRRAtIY rr => .aluRRSrc .subb rr .iy
  | .subbRRAtIncSP rr => .aluRRSrc .subb rr .incSP
  | .subbRRAtHLC rr => .aluRRSrc .subb rr .hlC
  | .subbRRAtIXd rr d => .aluRRSrc .subb rr (.ixd d)
  | .subbRRAtIYd rr d => .aluRRSrc .subb rr (.iyd d)
  | .subbRRAtSPd rr d => .aluRRSrc .subb rr (.spd d)
  | .subbRRAtHLd rr d => .aluRRSrc .subb rr (.hld d)
  | .subbRRAtPCA rr => .aluRRSrc .subb rr .pcA
  | .subRAtX r x => .aluRSrc .sub r (.x x)
  | .subRAtVW r addr => .aluRSrc .sub r (.vw addr)
  | .subRAtDE r => .aluRSrc .sub r .de
  | .subRAtHL r => .aluRSrc .sub r .hl
  | .subRAtIX r => .aluRSrc .sub r .ix
  | .subRAtIY r => .aluRSrc .sub r .iy
  | .subRAtIncSP r => .aluRSrc .sub r .incSP
  | .subRAtHLC r => .aluRSrc .sub r .hlC
  | .subRAtIXd r d => .aluRSrc .sub r (.ixd d)
  | .subRAtIYd r d => .aluRSrc .sub r (.iyd d)
  | .subRAtSPd r d => .aluRSrc .sub r (.spd d)
  | .subRAtHLd r d => .aluRSrc .sub r (.hld d)
  | .subRAtPCA r => .aluRSrc .sub r .pcA
  | .subAtXN x n => .aluSrcN .sub (.x x) n
  | .subAtVWN addr n => .aluSrcN .sub (.vw addr) n
  | .subAtDEN n => .aluSrcN .sub .de n
  | .subAtHLN n => .aluSrcN .sub .hl n
  | .subAtIXN n => .aluSrcN .sub .ix n
  | .subAtIYN n => .aluSrcN .sub .iy n
  | .subAtIncSPN n => .aluSrcN .sub .incSP n
  | .subAtHLCN n => .aluSrcN .sub .hlC n
  | .subAtIXdN d n => .aluSrcN .sub (.ixd d) n
  | .subAtIYdN d n => .aluSrcN .sub (.iyd d) n
  | .subAtSPdN d n => .aluSrcN .sub (.spd d) n
  | .subAtHLdN d n => .aluSrcN .sub (.hld d) n
  | .subAtPCAN n => .aluSrcN .sub .pcA n
  | .subRRAtX rr x => .aluRRSrc .sub rr (.x x)
  | .subRRAtVW rr addr => .aluRRSrc .sub rr (.vw addr)
  | .subRRAtDE rr => .aluRRSrc .sub rr .de
  | .subRRAtHL rr => .aluRRSrc .sub rr .hl
  | .subRRAtIX rr => .aluRRSrc .sub rr .ix
  | .subRRAtIY rr => .aluRRSrc .sub rr .iy
  | .subRRAtIncSP rr => .aluRRSrc .sub rr .incSP
  | .subRRAtHLC rr => .aluRRSrc .sub rr .hlC
  | .subRRAtIXd rr d => .aluRRSrc .sub rr (.ixd d)
  | .subRRAtIYd rr d => .aluRRSrc .sub rr (.iyd d)
  | .subRRAtSPd rr d => .aluRRSrc .sub rr (.spd d)
  | .subRRAtHLd rr d => .aluRRSrc .sub rr (.hld d)
  | .subRRAtPCA rr => .aluRRSrc .sub rr .pcA
  | .andRAtX r x => .aluRSrc .and r (.x x)
  | .andRAtVW r addr => .aluRSrc .and r (.vw addr)
  | .andRAtDE r => .aluRSrc .and r .de
  | .andRAtHL r => .aluRSrc .and r .hl
  | .andRAtIX r => .aluRSrc .and r .ix
  | .andRAtIY r => .aluRSrc .and r .iy
  | .andRAtIncSP r => .aluRSrc .and r .incSP
  | .andRAtHLC r => .aluRSrc .and r .hlC
  | .andRAtIXd r d => .aluRSrc .and r (.ixd d)
  | .andRAtIYd r d => .aluRSrc .and r (.iyd d)
  | .andRAtSPd r d => .aluRSrc .and r (.spd d)
  | .andRAtHLd r d => .aluRSrc .and r (.hld d)
  | .andRAtPCA r => .aluRSrc .and r .pcA
  | .andAtXN x n => .aluSrcN .and (.x x) n
  | .andAtVWN addr n => .aluSrcN .and (.vw addr) n
  | .andAtDEN n => .aluSrcN .and .de n
  | .andAtHLN n => .aluSrcN .and .hl n
  | .andAtIXN n => .aluSrcN .and .ix n
  | .andAtIYN n => .aluSrcN .and .iy n
  | .andAtIncSPN n => .aluSrcN .and .incSP n
  | .andAtHLCN n => .aluSrcN .and .hlC n
  | .andAtIXdN d n => .aluSrcN .and (.ixd d) n
  | .andAtIYdN d n => .aluSrcN .and (.iyd d) n
  | .andAtSPdN d n => .aluSrcN .and (.spd d) n
  | .andAtHLdN d n => .aluSrcN .and (.hld d) n
  | .andAtPCAN n => .aluSrcN .and .pcA n
  | .andRRAtX rr x => .aluRRSrc .and rr (.x x)
  | .andRRAtVW rr addr => .aluRRSrc .and rr (.vw addr)
  | .andRRAtDE rr => .aluRRSrc .and rr .de
  | .andRRAtHL rr => .aluRRSrc .and rr .hl
  | .andRRAtIX rr => .aluRRSrc .and rr .ix
  | .andRRAtIY rr => .aluRRSrc .and rr .iy
  | .andRRAtIncSP rr => .aluRRSrc .and rr .incSP
  | .andRRAtHLC rr => .aluRRSrc .and rr .hlC
  | .andRRAtIXd rr d => .aluRRSrc .and rr (.ixd d)
  | .andRRAtIYd rr d => .aluRRSrc .and rr (.iyd d)
  | .andRRAtSPd rr d => .aluRRSrc .and rr (.spd d)
  | .andRRAtHLd rr d => .aluRRSrc .and rr (.hld d)
  | .andRRAtPCA rr => .aluRRSrc .and rr .pcA
  | .xorRAtX r x => .aluRSrc .xor r (.x x)
  | .xorRAtVW r addr => .aluRSrc .xor r (.vw addr)
  | .xorRAtDE r => .aluRSrc .xor r .de
  | .xorRAtHL r => .aluRSrc .xor r .hl
  | .xorRAtIX r => .aluRSrc .xor r .ix
  | .xorRAtIY r => .aluRSrc .xor r .iy
  | .xorRAtIncSP r => .aluRSrc .xor r .incSP
  | .xorRAtHLC r => .aluRSrc .xor r .hlC
  | .xorRAtIXd r d => .aluRSrc .xor r (.ixd d)
  | .xorRAtIYd r d => .aluRSrc .xor r (.iyd d)
  | .xorRAtSPd r d => .aluRSrc .xor r (.spd d)
  | .xorRAtHLd r d => .aluRSrc .xor r (.hld d)
  | .xorRAtPCA r => .aluRSrc .xor r .pcA
  | .xorAtXN x n => .aluSrcN .xor (.x x) n
  | .xorAtVWN addr n => .aluSrcN .xor (.vw addr) n
  | .xorAtDEN n => .aluSrcN .xor .de n
  | .xorAtHLN n => .aluSrcN .xor .hl n
  | .xorAtIXN n => .aluSrcN .xor .ix n
  | .xorAtIYN n => .aluSrcN .xor .iy n
  | .xorAtIncSPN n => .aluSrcN .xor .incSP n
  | .xorAtHLCN n => .aluSrcN .xor .hlC n
  | .xorAtIXdN d n => .aluSrcN .xor (.ixd d) n
  | .xorAtIYdN d n => .aluSrcN .xor (.iyd d) n
  | .xorAtSPdN d n => .aluSrcN .xor (.spd d) n
  | .xorAtHLdN d n => .aluSrcN .xor (.hld d) n
  | .xorAtPCAN n => .aluSrcN .xor .pcA n
  | .xorRRAtX rr x => .aluRRSrc .xor rr (.x x)
  | .xorRRAtVW rr addr => .aluRRSrc .xor rr (.vw addr)
  | .xorRRAtDE rr => .aluRRSrc .xor rr .de
  | .xorRRAtHL rr => .aluRRSrc .xor rr .hl
  | .xorRRAtIX rr => .aluRRSrc .xor rr .ix
  | .xorRRAtIY rr => .aluRRSrc .xor rr .iy
  | .xorRRAtIncSP rr => .aluRRSrc .xor rr .incSP
  | .xorRRAtHLC rr => .aluRRSrc .xor rr .hlC
  | .xorRRAtIXd rr d => .aluRRSrc .xor rr (.ixd d)
  | .xorRRAtIYd rr d => .aluRRSrc .xor rr (.iyd d)
  | .xorRRAtSPd rr d => .aluRRSrc .xor rr (.spd d)
  | .xorRRAtHLd rr d => .aluRRSrc .xor rr (.hld d)
  | .xorRRAtPCA rr => .aluRRSrc .xor rr .pcA
  | .orRAtX r x => .aluRSrc .or r (.x x)
  | .orRAtVW r addr => .aluRSrc .or r (.vw addr)
  | .orRAtDE r => .aluRSrc .or r .de
  | .orRAtHL r => .aluRSrc .or r .hl
  | .orRAtIX r => .aluRSrc .or r .ix
  | .orRAtIY r => .aluRSrc .or r .iy
  | .orRAtIncSP r => .aluRSrc .or r .incSP
  | .orRAtHLC r => .aluRSrc .or r .hlC
  | .orRAtIXd r d => .aluRSrc .or r (.ixd d)
  | .orRAtIYd r d => .aluRSrc .or r (.iyd d)
  | .orRAtSPd r d => .aluRSrc .or r (.spd d)
  | .orRAtHLd r d => .aluRSrc .or r (.hld d)
  | .orRAtPCA r => .aluRSrc .or r .pcA
  | .orAtXN x n => .aluSrcN .or (.x x) n
  | .orAtVWN addr n => .aluSrcN .or (.vw addr) n
  | .orAtDEN n => .aluSrcN .or .de n
  | .orAtHLN n => .aluSrcN .or .hl n
  | .orAtIXN n => .aluSrcN .or .ix n
  | .orAtIYN n => .aluSrcN .or .iy n
  | .orAtIncSPN n => .aluSrcN .or .incSP n
  | .orAtHLCN n => .aluSrcN .or .hlC n
  | .orAtIXdN d n => .aluSrcN .or (.ixd d) n
  | .orAtIYdN d n => .aluSrcN .or (.iyd d) n
  | .orAtSPdN d n => .aluSrcN .or (.spd d) n
  | .orAtHLdN d n => .aluSrcN .or (.hld d) n
  | .orAtPCAN n => .aluSrcN .or .pcA n
  | .orRRAtX rr x => .aluRRSrc .or rr (.x x)
  | .orRRAtVW rr addr => .aluRRSrc .or rr (.vw addr)
  | .orRRAtDE rr => .aluRRSrc .or rr .de
  | .orRRAtHL rr => .aluRRSrc .or rr .hl
  | .orRRAtIX rr => .aluRRSrc .or rr .ix
  | .orRRAtIY rr => .aluRRSrc .or rr .iy
  | .orRRAtIncSP rr => .aluRRSrc .or rr .incSP
  | .orRRAtHLC rr => .aluRRSrc .or rr .hlC
  | .orRRAtIXd rr d => .aluRRSrc .or rr (.ixd d)
  | .orRRAtIYd rr d => .aluRRSrc .or rr (.iyd d)
  | .orRRAtSPd rr d => .aluRRSrc .or rr (.spd d)
  | .orRRAtHLd rr d => .aluRRSrc .or rr (.hld d)
  | .orRRAtPCA rr => .aluRRSrc .or rr .pcA
  | .cmpRAtX r x => .aluRSrc .cmp r (.x x)
  | .cmpRAtVW r addr => .aluRSrc .cmp r (.vw addr)
  | .cmpRAtDE r => .aluRSrc .cmp r .de
  | .cmpRAtHL r => .aluRSrc .cmp r .hl
  | .cmpRAtIX r => .aluRSrc .cmp r .ix
  | .cmpRAtIY r => .aluRSrc .cmp r .iy
  | .cmpRAtIncSP r => .aluRSrc .cmp r .incSP
  | .cmpRAtHLC r => .aluRSrc .cmp r .hlC
  | .cmpRAtIXd r d => .aluRSrc .cmp r (.ixd d)
  | .cmpRAtIYd r d => .aluRSrc .cmp r (.iyd d)
  | .cmpRAtSPd r d => .aluRSrc .cmp r (.spd d)
  | .cmpRAtHLd r d => .aluRSrc .cmp r (.hld d)
  | .cmpRAtPCA r => .aluRSrc .cmp r .pcA
  | .cmpAtXNLong x n => .aluSrcN .cmp (.x x) n
  | .cmpAtVWN addr n => .aluSrcN .cmp (.vw addr) n
  | .cmpAtDEN n => .aluSrcN .cmp .de n
  | .cmpAtHLN n => .aluSrcN .cmp .hl n
  | .cmpAtIXN n => .aluSrcN .cmp .ix n
  | .cmpAtIYN n => .aluSrcN .cmp .iy n
  | .cmpAtIncSPN n => .aluSrcN .cmp .incSP n
  | .cmpAtHLCN n => .aluSrcN .cmp .hlC n
  | .cmpAtIXdN d n => .aluSrcN .cmp (.ixd d) n
  | .cmpAtIYdN d n => .aluSrcN .cmp (.iyd d) n
  | .cmpAtSPdN d n => .aluSrcN .cmp (.spd d) n
  | .cmpAtHLdN d n => .aluSrcN .cmp (.hld d) n
  | .cmpAtPCAN n => .aluSrcN .cmp .pcA n
  | .cmpRRAtX rr x => .aluRRSrc .cmp rr (.x x)
  | .cmpRRAtVW rr addr => .aluRRSrc .cmp rr (.vw addr)
  | .cmpRRAtDE rr => .aluRRSrc .cmp rr .de
  | .cmpRRAtHL rr => .aluRRSrc .cmp rr .hl
  | .cmpRRAtIX rr => .aluRRSrc .cmp rr .ix
  | .cmpRRAtIY rr => .aluRRSrc .cmp rr .iy
  | .cmpRRAtIncSP rr => .aluRRSrc .cmp rr .incSP
  | .cmpRRAtHLC rr => .aluRRSrc .cmp rr .hlC
  | .cmpRRAtIXd rr d => .aluRRSrc .cmp rr (.ixd d)
  | .cmpRRAtIYd rr d => .aluRRSrc .cmp rr (.iyd d)
  | .cmpRRAtSPd rr d => .aluRRSrc .cmp rr (.spd d)
  | .cmpRRAtHLd rr d => .aluRRSrc .cmp rr (.hld d)
  | .cmpRRAtPCA rr => .aluRRSrc .cmp rr .pcA
  | .ldRAtX r x => .ldRSrc r (.x x)
  | .ldRAtVW r addr => .ldRSrc r (.vw addr)
  | .ldRAtDE r => .ldRSrc r .de
  | .ldRAtHL r => .ldRSrc r .hl
  | .ldRAtIX r => .ldRSrc r .ix
  | .ldRAtIY r => .ldRSrc r .iy
  | .ldRAtIncSP r => .ldRSrc r .incSP
  | .ldRAtHLC r => .ldRSrc r .hlC
  | .ldRAtIXd r d => .ldRSrc r (.ixd d)
  | .ldRAtIYd r d => .ldRSrc r (.iyd d)
  | .ldRAtSPd r d => .ldRSrc r (.spd d)
  | .ldRAtHLd r d => .ldRSrc r (.hld d)
  | .ldRAtPCA r => .ldRSrc r .pcA
  | .ldRRAtX rr x => .ldRRSrc rr (.x x)
  | .ldRRAtVW rr addr => .ldRRSrc rr (.vw addr)
  | .ldRRAtDE rr => .ldRRSrc rr .de
  | .ldRRAtHL rr => .ldRRSrc rr .hl
  | .ldRRAtIX rr => .ldRRSrc rr .ix
  | .ldRRAtIY rr => .ldRRSrc rr .iy
  | .ldRRAtIncSP rr => .ldRRSrc rr .incSP
  | .ldRRAtHLC rr => .ldRRSrc rr .hlC
  | .ldRRAtIXd rr d => .ldRRSrc rr (.ixd d)
  | .ldRRAtIYd rr d => .ldRRSrc rr (.iyd d)
  | .ldRRAtSPd rr d => .ldRRSrc rr (.spd d)
  | .ldRRAtHLd rr d => .ldRRSrc rr (.hld d)
  | .ldRRAtPCA rr => .ldRRSrc rr .pcA
  | .xorCFAtXb x b => .xorCFSrcB (.x x) b
  | .xorCFAtVWb addr b => .xorCFSrcB (.vw addr) b
  | .xorCFAtDEb b => .xorCFSrcB .de b
  | .xorCFAtHLb b => .xorCFSrcB .hl b
  | .xorCFAtIXb b => .xorCFSrcB .ix b
  | .xorCFAtIYb b => .xorCFSrcB .iy b
  | .xorCFAtIncSPb b => .xorCFSrcB .incSP b
  | .xorCFAtHLCb b => .xorCFSrcB .hlC b
  | .xorCFAtIXdb d b => .xorCFSrcB (.ixd d) b
  | .xorCFAtIYdb d b => .xorCFSrcB (.iyd d) b
  | .xorCFAtSPdb d b => .xorCFSrcB (.spd d) b
  | .xorCFAtHLdb d b => .xorCFSrcB (.hld d) b
  | .xorCFAtPCAb b => .xorCFSrcB .pcA b
  | .ldCFAtXbLong x b => .ldCFSrcB (.x x) b
  | .ldCFAtVWb addr b => .ldCFSrcB (.vw addr) b
  | .ldCFAtDEb b => .ldCFSrcB .de b
  | .ldCFAtHLb b => .ldCFSrcB .hl b
  | .ldCFAtIXb b => .ldCFSrcB .ix b
  | .ldCFAtIYb b => .ldCFSrcB .iy b
  | .ldCFAtIncSPb b => .ldCFSrcB .incSP b
  | .ldCFAtHLCb b => .ldCFSrcB .hlC b
  | .ldCFAtIXdb d b => .ldCFSrcB (.ixd d) b
  | .ldCFAtIYdb d b => .ldCFSrcB (.iyd d) b
  | .ldCFAtSPdb d b => .ldCFSrcB (.spd d) b
  | .ldCFAtHLdb d b => .ldCFSrcB (.hld d) b
  | .ldCFAtPCAb b => .ldCFSrcB .pcA b
  | .testAtXbLong x b => .ldCFSrcB (.x x) b
  | .testAtVWb addr b => .ldCFSrcB (.vw addr) b
  | .testAtDEb b => .ldCFSrcB .de b
  | .testAtHLb b => .ldCFSrcB .hl b
  | .testAtIXb b => .ldCFSrcB .ix b
  | .testAtIYb b => .ldCFSrcB .iy b
  | .testAtIncSPb b => .ldCFSrcB .incSP b
  | .testAtHLCb b => .ldCFSrcB .hlC b
  | .testAtIXdb d b => .ldCFSrcB (.ixd d) b
  | .testAtIYdb d b => .ldCFSrcB (.iyd d) b
  | .testAtSPdb d b => .ldCFSrcB (.spd d) b
  | .testAtHLdb d b => .ldCFSrcB (.hld d) b
  | .testAtPCAb b => .ldCFSrcB .pcA b
  | .xchRAtX r x => .xchRSrc r (.x x)
  | .xchRAtVW r addr => .xchRSrc r (.vw addr)
  | .xchRAtDE r => .xchRSrc r .de
  | .xchRAtHL r => .xchRSrc r .hl
  | .xchRAtIX r => .xchRSrc r .ix
  | .xchRAtIY r => .xchRSrc r .iy
  | .xchRAtIncSP r => .xchRSrc r .incSP
  | .xchRAtHLC r => .xchRSrc r .hlC
  | .xchRAtIXd r d => .xchRSrc r (.ixd d)
  | .xchRAtIYd r d => .xchRSrc r (.iyd d)
  | .xchRAtSPd r d => .xchRSrc r (.spd d)
  | .xchRAtHLd r d => .xchRSrc r (.hld d)
  | .xchRAtPCA r => .xchRSrc r .pcA
  | .setAtXbLong x b => .bitSrcB .set (.x x) b
  | .setAtVWb addr b => .bitSrcB .set (.vw addr) b
  | .setAtDEb b => .bitSrcB .set .de b
  | .setAtHLb b => .bitSrcB .set .hl b
  | .setAtIXb b => .bitSrcB .set .ix b
  | .setAtIYb b => .bitSrcB .set .iy b
  | .setAtIncSPb b => .bitSrcB .set .incSP b
  | .setAtHLCb b => .bitSrcB .set .hlC b
  | .setAtIXdb d b => .bitSrcB .set (.ixd d) b
  | .setAtIYdb d b => .bitSrcB .set (.iyd d) b
  | .setAtSPdb d b => .bitSrcB .set (.spd d) b
  | .setAtHLdb d b => .bitSrcB .set (.hld d) b
  | .setAtPCAb b => .bitSrcB .set .pcA b
  | .clrAtXbLong x b => .bitSrcB .clr (.x x) b
  | .clrAtVWb addr b => .bitSrcB .clr (.vw addr) b
  | .clrAtDEb b => .bitSrcB .clr .de b
  | .clrAtHLb b => .bitSrcB .clr .hl b
  | .clrAtIXb b => .bitSrcB .clr .ix b
  | .clrAtIYb b => .bitSrcB .clr .iy b
  | .clrAtIncSPb b => .bitSrcB .clr .incSP b
  | .clrAtHLCb b => .bitSrcB .clr .hlC b
  | .clrAtIXdb d b => .bitSrcB .clr (.ixd d) b
  | .clrAtIYdb d b => .bitSrcB .clr (.iyd d) b
  | .clrAtSPdb d b => .bitSrcB .clr (.spd d) b
  | .clrAtHLdb d b => .bitSrcB .clr (.hld d) b
  | .clrAtPCAb b => .bitSrcB .clr .pcA b
  | .xchRRAtX rr x => .xchRRSrc rr (.x x)
  | .xchRRAtVW rr addr => .xchRRSrc rr (.vw addr)
  | .xchRRAtDE rr => .xchRRSrc rr .de
  | .xchRRAtHL rr => .xchRRSrc rr .hl
  | .xchRRAtIX rr => .xchRRSrc rr .ix
  | .xchRRAtIY rr => .xchRRSrc rr .iy
  | .xchRRAtIncSP rr => .xchRRSrc rr .incSP
  | .xchRRAtHLC rr => .xchRRSrc rr .hlC
  | .xchRRAtIXd rr d => .xchRRSrc rr (.ixd d)
  | .xchRRAtIYd rr d => .xchRRSrc rr (.iyd d)
  | .xchRRAtSPd rr d => .xchRRSrc rr (.spd d)
  | .xchRRAtHLd rr d => .xchRRSrc rr (.hld d)
  | .xchRRAtPCA rr => .xchRRSrc rr .pcA
  | .cplAtXb x b => .bitSrcB .cpl (.x x) b
  | .cplAtVWb addr b => .bitSrcB .cpl (.vw addr) b
  | .cplAtDEb b => .bitSrcB .cpl .de b
  | .cplAtHLb b => .bitSrcB .cpl .hl b
  | .cplAtIXb b => .bitSrcB .cpl .ix b
  | .cplAtIYb b => .bitSrcB .cpl .iy b
  | .cplAtIncSPb b => .bitSrcB .cpl .incSP b
  | .cplAtHLCb b => .bitSrcB .cpl .hlC b
  | .cplAtIXdb d b => .bitSrcB .cpl (.ixd d) b
  | .cplAtIYdb d b => .bitSrcB .cpl (.iyd d) b
  | .cplAtSPdb d b => .bitSrcB .cpl (.spd d) b
  | .cplAtHLdb d b => .bitSrcB .cpl (.hld d) b
  | .cplAtPCAb b => .bitSrcB .cpl .pcA b
  | .ldAtXbCF x b => .ldSrcBCF (.x x) b
  | .ldAtVWbCF addr b => .ldSrcBCF (.vw addr) b
  | .ldAtDEbCF b => .ldSrcBCF .de b
  | .ldAtHLbCF b => .ldSrcBCF .hl b
  | .ldAtIXbCF b => .ldSrcBCF .ix b
  | .ldAtIYbCF b => .ldSrcBCF .iy b
  | .ldAtIncSPbCF b => .ldSrcBCF .incSP b
  | .ldAtHLCbCF b => .ldSrcBCF .hlC b
  | .ldAtIXdbCF d b => .ldSrcBCF (.ixd d) b
  | .ldAtIYdbCF d b => .ldSrcBCF (.iyd d) b
  | .ldAtSPdbCF d b => .ldSrcBCF (.spd d) b
  | .ldAtHLdbCF d b => .ldSrcBCF (.hld d) b
  | .ldAtPCAbCF b => .ldSrcBCF .pcA b
  | .incAtX x => .incSrc (.x x)
  | .incAtVW addr => .incSrc (.vw addr)
  | .incAtDE => .incSrc .de
  | .incAtHL => .incSrc .hl
  | .incAtIX => .incSrc .ix
  | .incAtIY => .incSrc .iy
  | .incAtIncSP => .incSrc .incSP
  | .incAtHLC => .incSrc .hlC
  | .incAtIXd d => .incSrc (.ixd d)
  | .incAtIYd d => .incSrc (.iyd d)
  | .incAtSPd d => .incSrc (.spd d)
  | .incAtHLd d => .incSrc (.hld d)
  | .incAtPCA => .incSrc .pcA
  | .setAtXbitA x => .bitSrcA .set (.x x)
  | .setAtVWbitA addr => .bitSrcA .set (.vw addr)
  | .setAtDEbitA => .bitSrcA .set .de
  | .setAtHLbitA => .bitSrcA .set .hl
  | .setAtIXbitA => .bitSrcA .set .ix
  | .setAtIYbitA => .bitSrcA .set .iy
  | .setAtIncSPbitA => .bitSrcA .set .incSP
  | .setAtHLCbitA => .bitSrcA .set .hlC
  | .setAtIXdbitA d => .bitSrcA .set (.ixd d)
  | .setAtIYdbitA d => .bitSrcA .set (.iyd d)
  | .setAtSPdbitA d => .bitSrcA .set (.spd d)
  | .setAtHLdbitA d => .bitSrcA .set (.hld d)
  | .setAtPCAbitA => .bitSrcA .set .pcA
  | .ldAtXbitACF x => .ldSrcACF (.x x)
  | .ldAtVWbitACF addr => .ldSrcACF (.vw addr)
  | .ldAtDEbitACF => .ldSrcACF .de
  | .ldAtHLbitACF => .ldSrcACF .hl
  | .ldAtIXbitACF => .ldSrcACF .ix
  | .ldAtIYbitACF => .ldSrcACF .iy
  | .ldAtIncSPbitACF => .ldSrcACF .incSP
  | .ldAtHLCbitACF => .ldSrcACF .hlC
  | .ldAtIXdbitACF d => .ldSrcACF (.ixd d)
  | .ldAtIYdbitACF d => .ldSrcACF (.iyd d)
  | .ldAtSPdbitACF d => .ldSrcACF (.spd d)
  | .ldAtHLdbitACF d => .ldSrcACF (.hld d)
  | .ldAtPCAbitACF => .ldSrcACF .pcA
  | .roldAAtX x => .rold (.x x)
  | .roldAAtVW addr => .rold (.vw addr)
  | .roldAAtDE => .rold .de
  | .roldAAtHL => .rold .hl
  | .roldAAtIX => .rold .ix
  | .roldAAtIY => .rold .iy
  | .roldAAtIncSP => .rold .incSP
  | .roldAAtHLC => .rold .hlC
  | .roldAAtIXd d => .rold (.ixd d)
  | .roldAAtIYd d => .rold (.iyd d)
  | .roldAAtSPd d => .rold (.spd d)
  | .roldAAtHLd d => .rold (.hld d)
  | .roldAAtPCA => .rold .pcA
  | .rordAAtX x => .rord (.x x)
  | .rordAAtVW addr => .rord (.vw addr)
  | .rordAAtDE => .rord .de
  | .rordAAtHL => .rord .hl
  | .rordAAtIX => .rord .ix
  | .rordAAtIY => .rord .iy
  | .rordAAtIncSP => .rord .incSP
  | .rordAAtHLC => .rord .hlC
  | .rordAAtIXd d => .rord (.ixd d)
  | .rordAAtIYd d => .rord (.iyd d)
  | .rordAAtSPd d => .rord (.spd d)
  | .rordAAtHLd d => .rord (.hld d)
  | .rordAAtPCA => .rord .pcA
  | .decAtX x => .decSrc (.x x)
  | .decAtVW addr => .decSrc (.vw addr)
  | .decAtDE => .decSrc .de
  | .decAtHL => .decSrc .hl
  | .decAtIX => .decSrc .ix
  | .decAtIY => .decSrc .iy
  | .decAtIncSP => .decSrc .incSP
  | .decAtHLC => .decSrc .hlC
  | .decAtIXd d => .decSrc (.ixd d)
  | .decAtIYd d => .decSrc (.iyd d)
  | .decAtSPd d => .decSrc (.spd d)
  | .decAtHLd d => .decSrc (.hld d)
  | .decAtPCA => .decSrc .pcA
  | .clrAtXbitA x => .bitSrcA .clr (.x x)
  | .clrAtVWbitA addr => .bitSrcA .clr (.vw addr)
  | .clrAtDEbitA => .bitSrcA .clr .de
  | .clrAtHLbitA => .bitSrcA .clr .hl
  | .clrAtIXbitA => .bitSrcA .clr .ix
  | .clrAtIYbitA => .bitSrcA .clr .iy
  | .clrAtIncSPbitA => .bitSrcA .clr .incSP
  | .clrAtHLCbitA => .bitSrcA .clr .hlC
  | .clrAtIXdbitA d => .bitSrcA .clr (.ixd d)
  | .clrAtIYdbitA d => .bitSrcA .clr (.iyd d)
  | .clrAtSPdbitA d => .bitSrcA .clr (.spd d)
  | .clrAtHLdbitA d => .bitSrcA .clr (.hld d)
  | .clrAtPCAbitA => .bitSrcA .clr .pcA
  | .cplAtXbitA x => .bitSrcA .cpl (.x x)
  | .cplAtVWbitA addr => .bitSrcA .cpl (.vw addr)
  | .cplAtDEbitA => .bitSrcA .cpl .de
  | .cplAtHLbitA => .bitSrcA .cpl .hl
  | .cplAtIXbitA => .bitSrcA .cpl .ix
  | .cplAtIYbitA => .bitSrcA .cpl .iy
  | .cplAtIncSPbitA => .bitSrcA .cpl .incSP
  | .cplAtHLCbitA => .bitSrcA .cpl .hlC
  | .cplAtIXdbitA d => .bitSrcA .cpl (.ixd d)
  | .cplAtIYdbitA d => .bitSrcA .cpl (.iyd d)
  | .cplAtSPdbitA d => .bitSrcA .cpl (.spd d)
  | .cplAtHLdbitA d => .bitSrcA .cpl (.hld d)
  | .cplAtPCAbitA => .bitSrcA .cpl .pcA
  | .ldCFAtXbitA x => .ldCFSrcA (.x x)
  | .ldCFAtVWbitA addr => .ldCFSrcA (.vw addr)
  | .ldCFAtDEbitA => .ldCFSrcA .de
  | .ldCFAtHLbitA => .ldCFSrcA .hl
  | .ldCFAtIXbitA => .ldCFSrcA .ix
  | .ldCFAtIYbitA => .ldCFSrcA .iy
  | .ldCFAtIncSPbitA => .ldCFSrcA .incSP
  | .ldCFAtHLCbitA => .ldCFSrcA .hlC
  | .ldCFAtIXdbitA d => .ldCFSrcA (.ixd d)
  | .ldCFAtIYdbitA d => .ldCFSrcA (.iyd d)
  | .ldCFAtSPdbitA d => .ldCFSrcA (.spd d)
  | .ldCFAtHLdbitA d => .ldCFSrcA (.hld d)
  | .ldCFAtPCAbitA => .ldCFSrcA .pcA
  | .testAtXbitA x => .ldCFSrcA (.x x)
  | .testAtVWbitA addr => .ldCFSrcA (.vw addr)
  | .testAtDEbitA => .ldCFSrcA .de
  | .testAtHLbitA => .ldCFSrcA .hl
  | .testAtIXbitA => .ldCFSrcA .ix
  | .testAtIYbitA => .ldCFSrcA .iy
  | .testAtIncSPbitA => .ldCFSrcA .incSP
  | .testAtHLCbitA => .ldCFSrcA .hlC
  | .testAtIXdbitA d => .ldCFSrcA (.ixd d)
  | .testAtIYdbitA d => .ldCFSrcA (.iyd d)
  | .testAtSPdbitA d => .ldCFSrcA (.spd d)
  | .testAtHLdbitA d => .ldCFSrcA (.hld d)
  | .testAtPCAbitA => .ldCFSrcA .pcA
  | .callAtX x => .callSrc (.x x)
  | .callAtVW addr => .callSrc (.vw addr)
  | .callAtDE => .callSrc .de
  | .callAtHL => .callSrc .hl
  | .callAtIX => .callSrc .ix
  | .callAtIY => .callSrc .iy
  | .callAtIncSP => .callSrc .incSP
  | .callAtHLC => .callSrc .hlC
  | .callAtIXd d => .callSrc (.ixd d)
  | .callAtIYd d => .callSrc (.iyd d)
  | .callAtSPd d => .callSrc (.spd d)
  | .callAtHLd d => .callSrc (.hld d)
  | .callAtPCA => .callSrc .pcA
  | .jpAtX x => .jpSrc (.x x)
  | .jpAtVW addr => .jpSrc (.vw addr)
  | .jpAtDE => .jpSrc .de
  | .jpAtHL => .jpSrc .hl
  | .jpAtIX => .jpSrc .ix
  | .jpAtIY => .jpSrc .iy
  | .jpAtIncSP => .jpSrc .incSP
  | .jpAtHLC => .jpSrc .hlC
  | .jpAtIXd d => .jpSrc (.ixd d)
  | .jpAtIYd d => .jpSrc (.iyd d)
  | .jpAtSPd d => .jpSrc (.spd d)
  | .jpAtHLd d => .jpSrc (.hld d)
  | .jpAtPCA => .jpSrc .pcA
  | .ldAtXRR x rr => .ldDstRR (.x x) rr
  | .ldAtXR x r => .ldDstR (.x x) r
  | .ldAtXNLong x n => .ldDstN (.x x) n
  | .ldAtVWRR addr rr => .ldDstRR (.vw addr) rr
  | .ldAtVWR addr r => .ldDstR (.vw addr) r
  | .ldAtVWN addr n => .ldDstN (.vw addr) n
  | .ldAtDERR rr => .ldDstRR .de rr
  | .ldAtDER r => .ldDstR .de r
  | .ldAtDEN n => .ldDstN .de n
  | .ldAtHLRR rr => .ldDstRR .hl rr
  | .ldAtHLR r => .ldDstR .hl r
  | .ldAtHLNLong n => .ldDstN .hl n
  | .ldAtIXRR rr => .ldDstRR .ix rr
  | .ldAtIXR r => .ldDstR .ix r
  | .ldAtIXN n => .ldDstN .ix n
  | .ldAtIYRR rr => .ldDstRR .iy rr
  | .ldAtIYR r => .ldDstR .iy r
  | .ldAtIYN n => .ldDstN .iy n
  | .ldAtSPDecRR rr => .ldDstRR .spDec rr
  | .ldAtSPDecR r => .ldDstR .spDec r
  | .ldAtSPDecN n => .ldDstN .spDec n
  | .ldAtHLCRR rr => .ldDstRR .hlC rr
  | .ldAtHLCR r => .ldDstR .hlC r
  | .ldAtHLCN n => .ldDstN .hlC n
  | .ldAtIXdRR d rr => .ldDstRR (.ixd d) rr
  | .ldAtIXdR d r => .ldDstR (.ixd d) r
  | .ldAtIXdN d n => .ldDstN (.ixd d) n
  | .ldAtIYdRR d rr => .ldDstRR (.iyd d) rr
  | .ldAtIYdR d r => .ldDstR (.iyd d) r
  | .ldAtIYdN d n => .ldDstN (.iyd d) n
  | .ldAtSPdRR d rr => .ldDstRR (.spd d) rr
  | .ldAtSPdR d r => .ldDstR (.spd d) r
  | .ldAtSPdN d n => .ldDstN (.spd d) n
  | .ldAtHLdRR d rr => .ldDstRR (.hld d) rr
  | .ldAtHLdR d r => .ldDstR (.hld d) r
  | .ldAtHLdN d n => .ldDstN (.hld d) n

/-- The instruction of a form: the first row of the table with that form that is no assembler spelling. -/
noncomputable def Instr.ofForm (f : Form) : Instr :=
  match f with
  | .nop => .nop
  | .clrCF => .clrCF
  | .setCF => .setCF
  | .cplCF => .cplCF
  | .cmpXN x n => .cmpAtXN x n
  | .ldwXMN x mn => .ldwAtXMN x mn
  | .ldwHLMN mn => .ldwAtHLMN mn
  | .ldXN x n => .ldAtXN x n
  | .ldHLN n => .ldAtHLN n
  | .ldAX x => .ldAAtX x
  | .ldAHL => .ldAAtHL
  | .ldXA x => .ldAtXA x
  | .ldHLA => .ldAtHLA
  | .ldAR r => .ldAR r
  | .ldRN r n => .ldRN r n
  | .incR r => .incR r
  | .decR r => .decR r
  | .incRR rr => .incRR rr
  | .ldSPAdd d => .ldSPAddD d
  | .decRR rr => .decRR rr
  | .ldSPSub d => .ldSPSubD d
  | .ldRA r => .ldRA r
  | .ldRRMN rr mn => .ldRRMN rr mn
  | .pushPair p => .pushRR p
  | .ldCFXB x b => .ldCFAtXb x b
  | .aluAN .addc n => .addcAN n
  | .aluAN .add n => .addAN n
  | .aluAN .subb n => .subbAN n
  | .aluAN .sub n => .subAN n
  | .aluAN .and n => .andAN n
  | .aluAN .xor n => .xorAN n
  | .aluAN .or n => .orAN n
  | .aluAN .cmp n => .cmpAN n
  | .callv n => .callvN n
  | .jrs true d => .jrsT d
  | .jrs false d => .jrsF d
  | .setXB x b => .setAtXb x b
  | .clrXB x b => .clrAtXb x b
  | .popPair p => .popRR p
  | .jrCC .z d => .jrZ d
  | .jrCC .nz d => .jrNZ d
  | .jrCC .cs d => .jrCS d
  | .jrCC .cc d => .jrCC d
  | .jrCC .le d => .jrLE d
  | .jrCC .gt d => .jrGT d
  | .jrCC .t d => .jrT d
  | .jrCC .f d => .jrF d
  | .ldRBS false => .ldRBS0
  | .ldRBS true => .ldRBS1
  | .ret => .ret
  | .reti => .reti
  | .jrA d => .jrA d
  | .callMN mn => .callMN mn
  | .jpMN mn => .jpMN mn
  | .swi => .swi
  | .aluRG .addc r g => .addcRG r g
  | .aluRG .add r g => .addRG r g
  | .aluRG .subb r g => .subbRG r g
  | .aluRG .sub r g => .subRG r g
  | .aluRG .and r g => .andRG r g
  | .aluRG .xor r g => .xorRG r g
  | .aluRG .or r g => .orRG r g
  | .aluRG .cmp r g => .cmpRG r g
  | .aluGN .addc g n => .addcGN g n
  | .aluGN .add g n => .addGN g n
  | .aluGN .subb g n => .subbGN g n
  | .aluGN .sub g n => .subGN g n
  | .aluGN .and g n => .andGN g n
  | .aluGN .xor g n => .xorGN g n
  | .aluGN .or g n => .orGN g n
  | .aluGN .cmp g n => .cmpGN g n
  | .aluGGMN .addc gg mn => .addcGGMN gg mn
  | .aluGGMN .add gg mn => .addGGMN gg mn
  | .aluGGMN .subb gg mn => .subbGGMN gg mn
  | .aluGGMN .sub gg mn => .subGGMN gg mn
  | .aluGGMN .and gg mn => .andGGMN gg mn
  | .aluGGMN .xor gg mn => .xorGGMN gg mn
  | .aluGGMN .or gg mn => .orGGMN gg mn
  | .aluGGMN .cmp gg mn => .cmpGGMN gg mn
  | .aluRRGG .addc rr gg => .addcRRGG rr gg
  | .aluRRGG .add rr gg => .addRRGG rr gg
  | .aluRRGG .subb rr gg => .subbRRGG rr gg
  | .aluRRGG .sub rr gg => .subRRGG rr gg
  | .aluRRGG .and rr gg => .andRRGG rr gg
  | .aluRRGG .xor rr gg => .xorRRGG rr gg
  | .aluRRGG .or rr gg => .orRRGG rr gg
  | .aluRRGG .cmp rr gg => .cmpRRGG rr gg
  | .ldRG r g => .ldRG r g
  | .ldRRGG rr gg => .ldRRGG rr gg
  | .xorCFGB g b => .xorCFGb g b
  | .ldCFGB g b => .ldCFGb g b
  | .xchRG r g => .xchRG r g
  | .xchRRGG rr gg => .xchRRGG rr gg
  | .bitGB .set g b => .setGb g b
  | .bitGB .clr g b => .clrGb g b
  | .bitGB .cpl g b => .cplGb g b
  | .jrCCLong .m d => .jrM d
  | .jrCCLong .p d => .jrP d
  | .jrCCLong .slt d => .jrSLT d
  | .jrCCLong .sge d => .jrSGE d
  | .jrCCLong .sle d => .jrSLE d
  | .jrCCLong .sgt d => .jrSGT d
  | .jrCCLong .vs d => .jrVS d
  | .jrCCLong .vc d => .jrVC d
  | .pushIndex .ix => .pushIX
  | .pushIndex .iy => .pushIY
  | .popIndex .ix => .popIX
  | .popIndex .iy => .popIY
  | .daa g => .daaG g
  | .das g => .dasG g
  | .pushPSW => .pushPSW
  | .popPSW => .popPSW
  | .ldPSW n => .ldPSWN n
  | .ldGBCF g b => .ldGbCF g b
  | .shift16 .shlca gg => .shlcaGG gg
  | .shift16 .shrca gg => .shrcaGG gg
  | .mul .wa => .mulWA
  | .mul .bc => .mulBC
  | .mul .de => .mulDE
  | .mul .hl => .mulHL
  | .div .wa => .divWAC
  | .div .de => .divDEC
  | .div .hl => .divHLC
  | .shift8 .shlc g => .shlcG g
  | .shift8 .shrc g => .shrcG g
  | .shift8 .rolc g => .rolcG g
  | .shift8 .rorc g => .rorcG g
  | .negCS gg => .negCSGG gg
  | .retn => .retn
  | .callGG gg => .callGG gg
  | .jpGG gg => .jpGG gg
  | .swap g => .swapG g
  | .aluRSrc .addc r (.x x) => .addcRAtX r x
  | .aluRSrc .addc r (.vw addr) => .addcRAtVW r addr
  | .aluRSrc .addc r .de => .addcRAtDE r
  | .aluRSrc .addc r .hl => .addcRAtHL r
  | .aluRSrc .addc r .ix => .addcRAtIX r
  | .aluRSrc .addc r .iy => .addcRAtIY r
  | .aluRSrc .addc r .incSP => .addcRAtIncSP r
  | .aluRSrc .addc r .hlC => .addcRAtHLC r
  | .aluRSrc .addc r (.ixd d) => .addcRAtIXd r d
  | .aluRSrc .addc r (.iyd d) => .addcRAtIYd r d
  | .aluRSrc .addc r (.spd d) => .addcRAtSPd r d
  | .aluRSrc .addc r (.hld d) => .addcRAtHLd r d
  | .aluRSrc .addc r .pcA => .addcRAtPCA r
  | .aluRSrc .add r (.x x) => .addRAtX r x
  | .aluRSrc .add r (.vw addr) => .addRAtVW r addr
  | .aluRSrc .add r .de => .addRAtDE r
  | .aluRSrc .add r .hl => .addRAtHL r
  | .aluRSrc .add r .ix => .addRAtIX r
  | .aluRSrc .add r .iy => .addRAtIY r
  | .aluRSrc .add r .incSP => .addRAtIncSP r
  | .aluRSrc .add r .hlC => .addRAtHLC r
  | .aluRSrc .add r (.ixd d) => .addRAtIXd r d
  | .aluRSrc .add r (.iyd d) => .addRAtIYd r d
  | .aluRSrc .add r (.spd d) => .addRAtSPd r d
  | .aluRSrc .add r (.hld d) => .addRAtHLd r d
  | .aluRSrc .add r .pcA => .addRAtPCA r
  | .aluRSrc .subb r (.x x) => .subbRAtX r x
  | .aluRSrc .subb r (.vw addr) => .subbRAtVW r addr
  | .aluRSrc .subb r .de => .subbRAtDE r
  | .aluRSrc .subb r .hl => .subbRAtHL r
  | .aluRSrc .subb r .ix => .subbRAtIX r
  | .aluRSrc .subb r .iy => .subbRAtIY r
  | .aluRSrc .subb r .incSP => .subbRAtIncSP r
  | .aluRSrc .subb r .hlC => .subbRAtHLC r
  | .aluRSrc .subb r (.ixd d) => .subbRAtIXd r d
  | .aluRSrc .subb r (.iyd d) => .subbRAtIYd r d
  | .aluRSrc .subb r (.spd d) => .subbRAtSPd r d
  | .aluRSrc .subb r (.hld d) => .subbRAtHLd r d
  | .aluRSrc .subb r .pcA => .subbRAtPCA r
  | .aluRSrc .sub r (.x x) => .subRAtX r x
  | .aluRSrc .sub r (.vw addr) => .subRAtVW r addr
  | .aluRSrc .sub r .de => .subRAtDE r
  | .aluRSrc .sub r .hl => .subRAtHL r
  | .aluRSrc .sub r .ix => .subRAtIX r
  | .aluRSrc .sub r .iy => .subRAtIY r
  | .aluRSrc .sub r .incSP => .subRAtIncSP r
  | .aluRSrc .sub r .hlC => .subRAtHLC r
  | .aluRSrc .sub r (.ixd d) => .subRAtIXd r d
  | .aluRSrc .sub r (.iyd d) => .subRAtIYd r d
  | .aluRSrc .sub r (.spd d) => .subRAtSPd r d
  | .aluRSrc .sub r (.hld d) => .subRAtHLd r d
  | .aluRSrc .sub r .pcA => .subRAtPCA r
  | .aluRSrc .and r (.x x) => .andRAtX r x
  | .aluRSrc .and r (.vw addr) => .andRAtVW r addr
  | .aluRSrc .and r .de => .andRAtDE r
  | .aluRSrc .and r .hl => .andRAtHL r
  | .aluRSrc .and r .ix => .andRAtIX r
  | .aluRSrc .and r .iy => .andRAtIY r
  | .aluRSrc .and r .incSP => .andRAtIncSP r
  | .aluRSrc .and r .hlC => .andRAtHLC r
  | .aluRSrc .and r (.ixd d) => .andRAtIXd r d
  | .aluRSrc .and r (.iyd d) => .andRAtIYd r d
  | .aluRSrc .and r (.spd d) => .andRAtSPd r d
  | .aluRSrc .and r (.hld d) => .andRAtHLd r d
  | .aluRSrc .and r .pcA => .andRAtPCA r
  | .aluRSrc .xor r (.x x) => .xorRAtX r x
  | .aluRSrc .xor r (.vw addr) => .xorRAtVW r addr
  | .aluRSrc .xor r .de => .xorRAtDE r
  | .aluRSrc .xor r .hl => .xorRAtHL r
  | .aluRSrc .xor r .ix => .xorRAtIX r
  | .aluRSrc .xor r .iy => .xorRAtIY r
  | .aluRSrc .xor r .incSP => .xorRAtIncSP r
  | .aluRSrc .xor r .hlC => .xorRAtHLC r
  | .aluRSrc .xor r (.ixd d) => .xorRAtIXd r d
  | .aluRSrc .xor r (.iyd d) => .xorRAtIYd r d
  | .aluRSrc .xor r (.spd d) => .xorRAtSPd r d
  | .aluRSrc .xor r (.hld d) => .xorRAtHLd r d
  | .aluRSrc .xor r .pcA => .xorRAtPCA r
  | .aluRSrc .or r (.x x) => .orRAtX r x
  | .aluRSrc .or r (.vw addr) => .orRAtVW r addr
  | .aluRSrc .or r .de => .orRAtDE r
  | .aluRSrc .or r .hl => .orRAtHL r
  | .aluRSrc .or r .ix => .orRAtIX r
  | .aluRSrc .or r .iy => .orRAtIY r
  | .aluRSrc .or r .incSP => .orRAtIncSP r
  | .aluRSrc .or r .hlC => .orRAtHLC r
  | .aluRSrc .or r (.ixd d) => .orRAtIXd r d
  | .aluRSrc .or r (.iyd d) => .orRAtIYd r d
  | .aluRSrc .or r (.spd d) => .orRAtSPd r d
  | .aluRSrc .or r (.hld d) => .orRAtHLd r d
  | .aluRSrc .or r .pcA => .orRAtPCA r
  | .aluRSrc .cmp r (.x x) => .cmpRAtX r x
  | .aluRSrc .cmp r (.vw addr) => .cmpRAtVW r addr
  | .aluRSrc .cmp r .de => .cmpRAtDE r
  | .aluRSrc .cmp r .hl => .cmpRAtHL r
  | .aluRSrc .cmp r .ix => .cmpRAtIX r
  | .aluRSrc .cmp r .iy => .cmpRAtIY r
  | .aluRSrc .cmp r .incSP => .cmpRAtIncSP r
  | .aluRSrc .cmp r .hlC => .cmpRAtHLC r
  | .aluRSrc .cmp r (.ixd d) => .cmpRAtIXd r d
  | .aluRSrc .cmp r (.iyd d) => .cmpRAtIYd r d
  | .aluRSrc .cmp r (.spd d) => .cmpRAtSPd r d
  | .aluRSrc .cmp r (.hld d) => .cmpRAtHLd r d
  | .aluRSrc .cmp r .pcA => .cmpRAtPCA r
  | .aluSrcN .addc (.x x) n => .addcAtXN x n
  | .aluSrcN .addc (.vw addr) n => .addcAtVWN addr n
  | .aluSrcN .addc .de n => .addcAtDEN n
  | .aluSrcN .addc .hl n => .addcAtHLN n
  | .aluSrcN .addc .ix n => .addcAtIXN n
  | .aluSrcN .addc .iy n => .addcAtIYN n
  | .aluSrcN .addc .incSP n => .addcAtIncSPN n
  | .aluSrcN .addc .hlC n => .addcAtHLCN n
  | .aluSrcN .addc (.ixd d) n => .addcAtIXdN d n
  | .aluSrcN .addc (.iyd d) n => .addcAtIYdN d n
  | .aluSrcN .addc (.spd d) n => .addcAtSPdN d n
  | .aluSrcN .addc (.hld d) n => .addcAtHLdN d n
  | .aluSrcN .addc .pcA n => .addcAtPCAN n
  | .aluSrcN .add (.x x) n => .addAtXN x n
  | .aluSrcN .add (.vw addr) n => .addAtVWN addr n
  | .aluSrcN .add .de n => .addAtDEN n
  | .aluSrcN .add .hl n => .addAtHLN n
  | .aluSrcN .add .ix n => .addAtIXN n
  | .aluSrcN .add .iy n => .addAtIYN n
  | .aluSrcN .add .incSP n => .addAtIncSPN n
  | .aluSrcN .add .hlC n => .addAtHLCN n
  | .aluSrcN .add (.ixd d) n => .addAtIXdN d n
  | .aluSrcN .add (.iyd d) n => .addAtIYdN d n
  | .aluSrcN .add (.spd d) n => .addAtSPdN d n
  | .aluSrcN .add (.hld d) n => .addAtHLdN d n
  | .aluSrcN .add .pcA n => .addAtPCAN n
  | .aluSrcN .subb (.x x) n => .subbAtXN x n
  | .aluSrcN .subb (.vw addr) n => .subbAtVWN addr n
  | .aluSrcN .subb .de n => .subbAtDEN n
  | .aluSrcN .subb .hl n => .subbAtHLN n
  | .aluSrcN .subb .ix n => .subbAtIXN n
  | .aluSrcN .subb .iy n => .subbAtIYN n
  | .aluSrcN .subb .incSP n => .subbAtIncSPN n
  | .aluSrcN .subb .hlC n => .subbAtHLCN n
  | .aluSrcN .subb (.ixd d) n => .subbAtIXdN d n
  | .aluSrcN .subb (.iyd d) n => .subbAtIYdN d n
  | .aluSrcN .subb (.spd d) n => .subbAtSPdN d n
  | .aluSrcN .subb (.hld d) n => .subbAtHLdN d n
  | .aluSrcN .subb .pcA n => .subbAtPCAN n
  | .aluSrcN .sub (.x x) n => .subAtXN x n
  | .aluSrcN .sub (.vw addr) n => .subAtVWN addr n
  | .aluSrcN .sub .de n => .subAtDEN n
  | .aluSrcN .sub .hl n => .subAtHLN n
  | .aluSrcN .sub .ix n => .subAtIXN n
  | .aluSrcN .sub .iy n => .subAtIYN n
  | .aluSrcN .sub .incSP n => .subAtIncSPN n
  | .aluSrcN .sub .hlC n => .subAtHLCN n
  | .aluSrcN .sub (.ixd d) n => .subAtIXdN d n
  | .aluSrcN .sub (.iyd d) n => .subAtIYdN d n
  | .aluSrcN .sub (.spd d) n => .subAtSPdN d n
  | .aluSrcN .sub (.hld d) n => .subAtHLdN d n
  | .aluSrcN .sub .pcA n => .subAtPCAN n
  | .aluSrcN .and (.x x) n => .andAtXN x n
  | .aluSrcN .and (.vw addr) n => .andAtVWN addr n
  | .aluSrcN .and .de n => .andAtDEN n
  | .aluSrcN .and .hl n => .andAtHLN n
  | .aluSrcN .and .ix n => .andAtIXN n
  | .aluSrcN .and .iy n => .andAtIYN n
  | .aluSrcN .and .incSP n => .andAtIncSPN n
  | .aluSrcN .and .hlC n => .andAtHLCN n
  | .aluSrcN .and (.ixd d) n => .andAtIXdN d n
  | .aluSrcN .and (.iyd d) n => .andAtIYdN d n
  | .aluSrcN .and (.spd d) n => .andAtSPdN d n
  | .aluSrcN .and (.hld d) n => .andAtHLdN d n
  | .aluSrcN .and .pcA n => .andAtPCAN n
  | .aluSrcN .xor (.x x) n => .xorAtXN x n
  | .aluSrcN .xor (.vw addr) n => .xorAtVWN addr n
  | .aluSrcN .xor .de n => .xorAtDEN n
  | .aluSrcN .xor .hl n => .xorAtHLN n
  | .aluSrcN .xor .ix n => .xorAtIXN n
  | .aluSrcN .xor .iy n => .xorAtIYN n
  | .aluSrcN .xor .incSP n => .xorAtIncSPN n
  | .aluSrcN .xor .hlC n => .xorAtHLCN n
  | .aluSrcN .xor (.ixd d) n => .xorAtIXdN d n
  | .aluSrcN .xor (.iyd d) n => .xorAtIYdN d n
  | .aluSrcN .xor (.spd d) n => .xorAtSPdN d n
  | .aluSrcN .xor (.hld d) n => .xorAtHLdN d n
  | .aluSrcN .xor .pcA n => .xorAtPCAN n
  | .aluSrcN .or (.x x) n => .orAtXN x n
  | .aluSrcN .or (.vw addr) n => .orAtVWN addr n
  | .aluSrcN .or .de n => .orAtDEN n
  | .aluSrcN .or .hl n => .orAtHLN n
  | .aluSrcN .or .ix n => .orAtIXN n
  | .aluSrcN .or .iy n => .orAtIYN n
  | .aluSrcN .or .incSP n => .orAtIncSPN n
  | .aluSrcN .or .hlC n => .orAtHLCN n
  | .aluSrcN .or (.ixd d) n => .orAtIXdN d n
  | .aluSrcN .or (.iyd d) n => .orAtIYdN d n
  | .aluSrcN .or (.spd d) n => .orAtSPdN d n
  | .aluSrcN .or (.hld d) n => .orAtHLdN d n
  | .aluSrcN .or .pcA n => .orAtPCAN n
  | .aluSrcN .cmp (.x x) n => .cmpAtXNLong x n
  | .aluSrcN .cmp (.vw addr) n => .cmpAtVWN addr n
  | .aluSrcN .cmp .de n => .cmpAtDEN n
  | .aluSrcN .cmp .hl n => .cmpAtHLN n
  | .aluSrcN .cmp .ix n => .cmpAtIXN n
  | .aluSrcN .cmp .iy n => .cmpAtIYN n
  | .aluSrcN .cmp .incSP n => .cmpAtIncSPN n
  | .aluSrcN .cmp .hlC n => .cmpAtHLCN n
  | .aluSrcN .cmp (.ixd d) n => .cmpAtIXdN d n
  | .aluSrcN .cmp (.iyd d) n => .cmpAtIYdN d n
  | .aluSrcN .cmp (.spd d) n => .cmpAtSPdN d n
  | .aluSrcN .cmp (.hld d) n => .cmpAtHLdN d n
  | .aluSrcN .cmp .pcA n => .cmpAtPCAN n
  | .aluRRSrc .addc rr (.x x) => .addcRRAtX rr x
  | .aluRRSrc .addc rr (.vw addr) => .addcRRAtVW rr addr
  | .aluRRSrc .addc rr .de => .addcRRAtDE rr
  | .aluRRSrc .addc rr .hl => .addcRRAtHL rr
  | .aluRRSrc .addc rr .ix => .addcRRAtIX rr
  | .aluRRSrc .addc rr .iy => .addcRRAtIY rr
  | .aluRRSrc .addc rr .incSP => .addcRRAtIncSP rr
  | .aluRRSrc .addc rr .hlC => .addcRRAtHLC rr
  | .aluRRSrc .addc rr (.ixd d) => .addcRRAtIXd rr d
  | .aluRRSrc .addc rr (.iyd d) => .addcRRAtIYd rr d
  | .aluRRSrc .addc rr (.spd d) => .addcRRAtSPd rr d
  | .aluRRSrc .addc rr (.hld d) => .addcRRAtHLd rr d
  | .aluRRSrc .addc rr .pcA => .addcRRAtPCA rr
  | .aluRRSrc .add rr (.x x) => .addRRAtX rr x
  | .aluRRSrc .add rr (.vw addr) => .addRRAtVW rr addr
  | .aluRRSrc .add rr .de => .addRRAtDE rr
  | .aluRRSrc .add rr .hl => .addRRAtHL rr
  | .aluRRSrc .add rr .ix => .addRRAtIX rr
  | .aluRRSrc .add rr .iy => .addRRAtIY rr
  | .aluRRSrc .add rr .incSP => .addRRAtIncSP rr
  | .aluRRSrc .add rr .hlC => .addRRAtHLC rr
  | .aluRRSrc .add rr (.ixd d) => .addRRAtIXd rr d
  | .aluRRSrc .add rr (.iyd d) => .addRRAtIYd rr d
  | .aluRRSrc .add rr (.spd d) => .addRRAtSPd rr d
  | .aluRRSrc .add rr (.hld d) => .addRRAtHLd rr d
  | .aluRRSrc .add rr .pcA => .addRRAtPCA rr
  | .aluRRSrc .subb rr (.x x) => .subbRRAtX rr x
  | .aluRRSrc .subb rr (.vw addr) => .subbRRAtVW rr addr
  | .aluRRSrc .subb rr .de => .subbRRAtDE rr
  | .aluRRSrc .subb rr .hl => .subbRRAtHL rr
  | .aluRRSrc .subb rr .ix => .subbRRAtIX rr
  | .aluRRSrc .subb rr .iy => .subbRRAtIY rr
  | .aluRRSrc .subb rr .incSP => .subbRRAtIncSP rr
  | .aluRRSrc .subb rr .hlC => .subbRRAtHLC rr
  | .aluRRSrc .subb rr (.ixd d) => .subbRRAtIXd rr d
  | .aluRRSrc .subb rr (.iyd d) => .subbRRAtIYd rr d
  | .aluRRSrc .subb rr (.spd d) => .subbRRAtSPd rr d
  | .aluRRSrc .subb rr (.hld d) => .subbRRAtHLd rr d
  | .aluRRSrc .subb rr .pcA => .subbRRAtPCA rr
  | .aluRRSrc .sub rr (.x x) => .subRRAtX rr x
  | .aluRRSrc .sub rr (.vw addr) => .subRRAtVW rr addr
  | .aluRRSrc .sub rr .de => .subRRAtDE rr
  | .aluRRSrc .sub rr .hl => .subRRAtHL rr
  | .aluRRSrc .sub rr .ix => .subRRAtIX rr
  | .aluRRSrc .sub rr .iy => .subRRAtIY rr
  | .aluRRSrc .sub rr .incSP => .subRRAtIncSP rr
  | .aluRRSrc .sub rr .hlC => .subRRAtHLC rr
  | .aluRRSrc .sub rr (.ixd d) => .subRRAtIXd rr d
  | .aluRRSrc .sub rr (.iyd d) => .subRRAtIYd rr d
  | .aluRRSrc .sub rr (.spd d) => .subRRAtSPd rr d
  | .aluRRSrc .sub rr (.hld d) => .subRRAtHLd rr d
  | .aluRRSrc .sub rr .pcA => .subRRAtPCA rr
  | .aluRRSrc .and rr (.x x) => .andRRAtX rr x
  | .aluRRSrc .and rr (.vw addr) => .andRRAtVW rr addr
  | .aluRRSrc .and rr .de => .andRRAtDE rr
  | .aluRRSrc .and rr .hl => .andRRAtHL rr
  | .aluRRSrc .and rr .ix => .andRRAtIX rr
  | .aluRRSrc .and rr .iy => .andRRAtIY rr
  | .aluRRSrc .and rr .incSP => .andRRAtIncSP rr
  | .aluRRSrc .and rr .hlC => .andRRAtHLC rr
  | .aluRRSrc .and rr (.ixd d) => .andRRAtIXd rr d
  | .aluRRSrc .and rr (.iyd d) => .andRRAtIYd rr d
  | .aluRRSrc .and rr (.spd d) => .andRRAtSPd rr d
  | .aluRRSrc .and rr (.hld d) => .andRRAtHLd rr d
  | .aluRRSrc .and rr .pcA => .andRRAtPCA rr
  | .aluRRSrc .xor rr (.x x) => .xorRRAtX rr x
  | .aluRRSrc .xor rr (.vw addr) => .xorRRAtVW rr addr
  | .aluRRSrc .xor rr .de => .xorRRAtDE rr
  | .aluRRSrc .xor rr .hl => .xorRRAtHL rr
  | .aluRRSrc .xor rr .ix => .xorRRAtIX rr
  | .aluRRSrc .xor rr .iy => .xorRRAtIY rr
  | .aluRRSrc .xor rr .incSP => .xorRRAtIncSP rr
  | .aluRRSrc .xor rr .hlC => .xorRRAtHLC rr
  | .aluRRSrc .xor rr (.ixd d) => .xorRRAtIXd rr d
  | .aluRRSrc .xor rr (.iyd d) => .xorRRAtIYd rr d
  | .aluRRSrc .xor rr (.spd d) => .xorRRAtSPd rr d
  | .aluRRSrc .xor rr (.hld d) => .xorRRAtHLd rr d
  | .aluRRSrc .xor rr .pcA => .xorRRAtPCA rr
  | .aluRRSrc .or rr (.x x) => .orRRAtX rr x
  | .aluRRSrc .or rr (.vw addr) => .orRRAtVW rr addr
  | .aluRRSrc .or rr .de => .orRRAtDE rr
  | .aluRRSrc .or rr .hl => .orRRAtHL rr
  | .aluRRSrc .or rr .ix => .orRRAtIX rr
  | .aluRRSrc .or rr .iy => .orRRAtIY rr
  | .aluRRSrc .or rr .incSP => .orRRAtIncSP rr
  | .aluRRSrc .or rr .hlC => .orRRAtHLC rr
  | .aluRRSrc .or rr (.ixd d) => .orRRAtIXd rr d
  | .aluRRSrc .or rr (.iyd d) => .orRRAtIYd rr d
  | .aluRRSrc .or rr (.spd d) => .orRRAtSPd rr d
  | .aluRRSrc .or rr (.hld d) => .orRRAtHLd rr d
  | .aluRRSrc .or rr .pcA => .orRRAtPCA rr
  | .aluRRSrc .cmp rr (.x x) => .cmpRRAtX rr x
  | .aluRRSrc .cmp rr (.vw addr) => .cmpRRAtVW rr addr
  | .aluRRSrc .cmp rr .de => .cmpRRAtDE rr
  | .aluRRSrc .cmp rr .hl => .cmpRRAtHL rr
  | .aluRRSrc .cmp rr .ix => .cmpRRAtIX rr
  | .aluRRSrc .cmp rr .iy => .cmpRRAtIY rr
  | .aluRRSrc .cmp rr .incSP => .cmpRRAtIncSP rr
  | .aluRRSrc .cmp rr .hlC => .cmpRRAtHLC rr
  | .aluRRSrc .cmp rr (.ixd d) => .cmpRRAtIXd rr d
  | .aluRRSrc .cmp rr (.iyd d) => .cmpRRAtIYd rr d
  | .aluRRSrc .cmp rr (.spd d) => .cmpRRAtSPd rr d
  | .aluRRSrc .cmp rr (.hld d) => .cmpRRAtHLd rr d
  | .aluRRSrc .cmp rr .pcA => .cmpRRAtPCA rr
  | .ldRSrc r (.x x) => .ldRAtX r x
  | .ldRSrc r (.vw addr) => .ldRAtVW r addr
  | .ldRSrc r .de => .ldRAtDE r
  | .ldRSrc r .hl => .ldRAtHL r
  | .ldRSrc r .ix => .ldRAtIX r
  | .ldRSrc r .iy => .ldRAtIY r
  | .ldRSrc r .incSP => .ldRAtIncSP r
  | .ldRSrc r .hlC => .ldRAtHLC r
  | .ldRSrc r (.ixd d) => .ldRAtIXd r d
  | .ldRSrc r (.iyd d) => .ldRAtIYd r d
  | .ldRSrc r (.spd d) => .ldRAtSPd r d
  | .ldRSrc r (.hld d) => .ldRAtHLd r d
  | .ldRSrc r .pcA => .ldRAtPCA r
  | .ldRRSrc rr (.x x) => .ldRRAtX rr x
  | .ldRRSrc rr (.vw addr) => .ldRRAtVW rr addr
  | .ldRRSrc rr .de => .ldRRAtDE rr
  | .ldRRSrc rr .hl => .ldRRAtHL rr
  | .ldRRSrc rr .ix => .ldRRAtIX rr
  | .ldRRSrc rr .iy => .ldRRAtIY rr
  | .ldRRSrc rr .incSP => .ldRRAtIncSP rr
  | .ldRRSrc rr .hlC => .ldRRAtHLC rr
  | .ldRRSrc rr (.ixd d) => .ldRRAtIXd rr d
  | .ldRRSrc rr (.iyd d) => .ldRRAtIYd rr d
  | .ldRRSrc rr (.spd d) => .ldRRAtSPd rr d
  | .ldRRSrc rr (.hld d) => .ldRRAtHLd rr d
  | .ldRRSrc rr .pcA => .ldRRAtPCA rr
  | .xorCFSrcB (.x x) b => .xorCFAtXb x b
  | .xorCFSrcB (.vw addr) b => .xorCFAtVWb addr b
  | .xorCFSrcB .de b => .xorCFAtDEb b
  | .xorCFSrcB .hl b => .xorCFAtHLb b
  | .xorCFSrcB .ix b => .xorCFAtIXb b
  | .xorCFSrcB .iy b => .xorCFAtIYb b
  | .xorCFSrcB .incSP b => .xorCFAtIncSPb b
  | .xorCFSrcB .hlC b => .xorCFAtHLCb b
  | .xorCFSrcB (.ixd d) b => .xorCFAtIXdb d b
  | .xorCFSrcB (.iyd d) b => .xorCFAtIYdb d b
  | .xorCFSrcB (.spd d) b => .xorCFAtSPdb d b
  | .xorCFSrcB (.hld d) b => .xorCFAtHLdb d b
  | .xorCFSrcB .pcA b => .xorCFAtPCAb b
  | .ldCFSrcB (.x x) b => .ldCFAtXbLong x b
  | .ldCFSrcB (.vw addr) b => .ldCFAtVWb addr b
  | .ldCFSrcB .de b => .ldCFAtDEb b
  | .ldCFSrcB .hl b => .ldCFAtHLb b
  | .ldCFSrcB .ix b => .ldCFAtIXb b
  | .ldCFSrcB .iy b => .ldCFAtIYb b
  | .ldCFSrcB .incSP b => .ldCFAtIncSPb b
  | .ldCFSrcB .hlC b => .ldCFAtHLCb b
  | .ldCFSrcB (.ixd d) b => .ldCFAtIXdb d b
  | .ldCFSrcB (.iyd d) b => .ldCFAtIYdb d b
  | .ldCFSrcB (.spd d) b => .ldCFAtSPdb d b
  | .ldCFSrcB (.hld d) b => .ldCFAtHLdb d b
  | .ldCFSrcB .pcA b => .ldCFAtPCAb b
  | .xchRSrc r (.x x) => .xchRAtX r x
  | .xchRSrc r (.vw addr) => .xchRAtVW r addr
  | .xchRSrc r .de => .xchRAtDE r
  | .xchRSrc r .hl => .xchRAtHL r
  | .xchRSrc r .ix => .xchRAtIX r
  | .xchRSrc r .iy => .xchRAtIY r
  | .xchRSrc r .incSP => .xchRAtIncSP r
  | .xchRSrc r .hlC => .xchRAtHLC r
  | .xchRSrc r (.ixd d) => .xchRAtIXd r d
  | .xchRSrc r (.iyd d) => .xchRAtIYd r d
  | .xchRSrc r (.spd d) => .xchRAtSPd r d
  | .xchRSrc r (.hld d) => .xchRAtHLd r d
  | .xchRSrc r .pcA => .xchRAtPCA r
  | .bitSrcB .set (.x x) b => .setAtXbLong x b
  | .bitSrcB .set (.vw addr) b => .setAtVWb addr b
  | .bitSrcB .set .de b => .setAtDEb b
  | .bitSrcB .set .hl b => .setAtHLb b
  | .bitSrcB .set .ix b => .setAtIXb b
  | .bitSrcB .set .iy b => .setAtIYb b
  | .bitSrcB .set .incSP b => .setAtIncSPb b
  | .bitSrcB .set .hlC b => .setAtHLCb b
  | .bitSrcB .set (.ixd d) b => .setAtIXdb d b
  | .bitSrcB .set (.iyd d) b => .setAtIYdb d b
  | .bitSrcB .set (.spd d) b => .setAtSPdb d b
  | .bitSrcB .set (.hld d) b => .setAtHLdb d b
  | .bitSrcB .set .pcA b => .setAtPCAb b
  | .bitSrcB .clr (.x x) b => .clrAtXbLong x b
  | .bitSrcB .clr (.vw addr) b => .clrAtVWb addr b
  | .bitSrcB .clr .de b => .clrAtDEb b
  | .bitSrcB .clr .hl b => .clrAtHLb b
  | .bitSrcB .clr .ix b => .clrAtIXb b
  | .bitSrcB .clr .iy b => .clrAtIYb b
  | .bitSrcB .clr .incSP b => .clrAtIncSPb b
  | .bitSrcB .clr .hlC b => .clrAtHLCb b
  | .bitSrcB .clr (.ixd d) b => .clrAtIXdb d b
  | .bitSrcB .clr (.iyd d) b => .clrAtIYdb d b
  | .bitSrcB .clr (.spd d) b => .clrAtSPdb d b
  | .bitSrcB .clr (.hld d) b => .clrAtHLdb d b
  | .bitSrcB .clr .pcA b => .clrAtPCAb b
  | .bitSrcB .cpl (.x x) b => .cplAtXb x b
  | .bitSrcB .cpl (.vw addr) b => .cplAtVWb addr b
  | .bitSrcB .cpl .de b => .cplAtDEb b
  | .bitSrcB .cpl .hl b => .cplAtHLb b
  | .bitSrcB .cpl .ix b => .cplAtIXb b
  | .bitSrcB .cpl .iy b => .cplAtIYb b
  | .bitSrcB .cpl .incSP b => .cplAtIncSPb b
  | .bitSrcB .cpl .hlC b => .cplAtHLCb b
  | .bitSrcB .cpl (.ixd d) b => .cplAtIXdb d b
  | .bitSrcB .cpl (.iyd d) b => .cplAtIYdb d b
  | .bitSrcB .cpl (.spd d) b => .cplAtSPdb d b
  | .bitSrcB .cpl (.hld d) b => .cplAtHLdb d b
  | .bitSrcB .cpl .pcA b => .cplAtPCAb b
  | .xchRRSrc rr (.x x) => .xchRRAtX rr x
  | .xchRRSrc rr (.vw addr) => .xchRRAtVW rr addr
  | .xchRRSrc rr .de => .xchRRAtDE rr
  | .xchRRSrc rr .hl => .xchRRAtHL rr
  | .xchRRSrc rr .ix => .xchRRAtIX rr
  | .xchRRSrc rr .iy => .xchRRAtIY rr
  | .xchRRSrc rr .incSP => .xchRRAtIncSP rr
  | .xchRRSrc rr .hlC => .xchRRAtHLC rr
  | .xchRRSrc rr (.ixd d) => .xchRRAtIXd rr d
  | .xchRRSrc rr (.iyd d) => .xchRRAtIYd rr d
  | .xchRRSrc rr (.spd d) => .xchRRAtSPd rr d
  | .xchRRSrc rr (.hld d) => .xchRRAtHLd rr d
  | .xchRRSrc rr .pcA => .xchRRAtPCA rr
  | .ldSrcBCF (.x x) b => .ldAtXbCF x b
  | .ldSrcBCF (.vw addr) b => .ldAtVWbCF addr b
  | .ldSrcBCF .de b => .ldAtDEbCF b
  | .ldSrcBCF .hl b => .ldAtHLbCF b
  | .ldSrcBCF .ix b => .ldAtIXbCF b
  | .ldSrcBCF .iy b => .ldAtIYbCF b
  | .ldSrcBCF .incSP b => .ldAtIncSPbCF b
  | .ldSrcBCF .hlC b => .ldAtHLCbCF b
  | .ldSrcBCF (.ixd d) b => .ldAtIXdbCF d b
  | .ldSrcBCF (.iyd d) b => .ldAtIYdbCF d b
  | .ldSrcBCF (.spd d) b => .ldAtSPdbCF d b
  | .ldSrcBCF (.hld d) b => .ldAtHLdbCF d b
  | .ldSrcBCF .pcA b => .ldAtPCAbCF b
  | .incSrc (.x x) => .incAtX x
  | .incSrc (.vw addr) => .incAtVW addr
  | .incSrc .de => .incAtDE
  | .incSrc .hl => .incAtHL
  | .incSrc .ix => .incAtIX
  | .incSrc .iy => .incAtIY
  | .incSrc .incSP => .incAtIncSP
  | .incSrc .hlC => .incAtHLC
  | .incSrc (.ixd d) => .incAtIXd d
  | .incSrc (.iyd d) => .incAtIYd d
  | .incSrc (.spd d) => .incAtSPd d
  | .incSrc (.hld d) => .incAtHLd d
  | .incSrc .pcA => .incAtPCA
  | .bitSrcA .set (.x x) => .setAtXbitA x
  | .bitSrcA .set (.vw addr) => .setAtVWbitA addr
  | .bitSrcA .set .de => .setAtDEbitA
  | .bitSrcA .set .hl => .setAtHLbitA
  | .bitSrcA .set .ix => .setAtIXbitA
  | .bitSrcA .set .iy => .setAtIYbitA
  | .bitSrcA .set .incSP => .setAtIncSPbitA
  | .bitSrcA .set .hlC => .setAtHLCbitA
  | .bitSrcA .set (.ixd d) => .setAtIXdbitA d
  | .bitSrcA .set (.iyd d) => .setAtIYdbitA d
  | .bitSrcA .set (.spd d) => .setAtSPdbitA d
  | .bitSrcA .set (.hld d) => .setAtHLdbitA d
  | .bitSrcA .set .pcA => .setAtPCAbitA
  | .bitSrcA .clr (.x x) => .clrAtXbitA x
  | .bitSrcA .clr (.vw addr) => .clrAtVWbitA addr
  | .bitSrcA .clr .de => .clrAtDEbitA
  | .bitSrcA .clr .hl => .clrAtHLbitA
  | .bitSrcA .clr .ix => .clrAtIXbitA
  | .bitSrcA .clr .iy => .clrAtIYbitA
  | .bitSrcA .clr .incSP => .clrAtIncSPbitA
  | .bitSrcA .clr .hlC => .clrAtHLCbitA
  | .bitSrcA .clr (.ixd d) => .clrAtIXdbitA d
  | .bitSrcA .clr (.iyd d) => .clrAtIYdbitA d
  | .bitSrcA .clr (.spd d) => .clrAtSPdbitA d
  | .bitSrcA .clr (.hld d) => .clrAtHLdbitA d
  | .bitSrcA .clr .pcA => .clrAtPCAbitA
  | .bitSrcA .cpl (.x x) => .cplAtXbitA x
  | .bitSrcA .cpl (.vw addr) => .cplAtVWbitA addr
  | .bitSrcA .cpl .de => .cplAtDEbitA
  | .bitSrcA .cpl .hl => .cplAtHLbitA
  | .bitSrcA .cpl .ix => .cplAtIXbitA
  | .bitSrcA .cpl .iy => .cplAtIYbitA
  | .bitSrcA .cpl .incSP => .cplAtIncSPbitA
  | .bitSrcA .cpl .hlC => .cplAtHLCbitA
  | .bitSrcA .cpl (.ixd d) => .cplAtIXdbitA d
  | .bitSrcA .cpl (.iyd d) => .cplAtIYdbitA d
  | .bitSrcA .cpl (.spd d) => .cplAtSPdbitA d
  | .bitSrcA .cpl (.hld d) => .cplAtHLdbitA d
  | .bitSrcA .cpl .pcA => .cplAtPCAbitA
  | .ldSrcACF (.x x) => .ldAtXbitACF x
  | .ldSrcACF (.vw addr) => .ldAtVWbitACF addr
  | .ldSrcACF .de => .ldAtDEbitACF
  | .ldSrcACF .hl => .ldAtHLbitACF
  | .ldSrcACF .ix => .ldAtIXbitACF
  | .ldSrcACF .iy => .ldAtIYbitACF
  | .ldSrcACF .incSP => .ldAtIncSPbitACF
  | .ldSrcACF .hlC => .ldAtHLCbitACF
  | .ldSrcACF (.ixd d) => .ldAtIXdbitACF d
  | .ldSrcACF (.iyd d) => .ldAtIYdbitACF d
  | .ldSrcACF (.spd d) => .ldAtSPdbitACF d
  | .ldSrcACF (.hld d) => .ldAtHLdbitACF d
  | .ldSrcACF .pcA => .ldAtPCAbitACF
  | .rold (.x x) => .roldAAtX x
  | .rold (.vw addr) => .roldAAtVW addr
  | .rold .de => .roldAAtDE
  | .rold .hl => .roldAAtHL
  | .rold .ix => .roldAAtIX
  | .rold .iy => .roldAAtIY
  | .rold .incSP => .roldAAtIncSP
  | .rold .hlC => .roldAAtHLC
  | .rold (.ixd d) => .roldAAtIXd d
  | .rold (.iyd d) => .roldAAtIYd d
  | .rold (.spd d) => .roldAAtSPd d
  | .rold (.hld d) => .roldAAtHLd d
  | .rold .pcA => .roldAAtPCA
  | .rord (.x x) => .rordAAtX x
  | .rord (.vw addr) => .rordAAtVW addr
  | .rord .de => .rordAAtDE
  | .rord .hl => .rordAAtHL
  | .rord .ix => .rordAAtIX
  | .rord .iy => .rordAAtIY
  | .rord .incSP => .rordAAtIncSP
  | .rord .hlC => .rordAAtHLC
  | .rord (.ixd d) => .rordAAtIXd d
  | .rord (.iyd d) => .rordAAtIYd d
  | .rord (.spd d) => .rordAAtSPd d
  | .rord (.hld d) => .rordAAtHLd d
  | .rord .pcA => .rordAAtPCA
  | .decSrc (.x x) => .decAtX x
  | .decSrc (.vw addr) => .decAtVW addr
  | .decSrc .de => .decAtDE
  | .decSrc .hl => .decAtHL
  | .decSrc .ix => .decAtIX
  | .decSrc .iy => .decAtIY
  | .decSrc .incSP => .decAtIncSP
  | .decSrc .hlC => .decAtHLC
  | .decSrc (.ixd d) => .decAtIXd d
  | .decSrc (.iyd d) => .decAtIYd d
  | .decSrc (.spd d) => .decAtSPd d
  | .decSrc (.hld d) => .decAtHLd d
  | .decSrc .pcA => .decAtPCA
  | .ldCFSrcA (.x x) => .ldCFAtXbitA x
  | .ldCFSrcA (.vw addr) => .ldCFAtVWbitA addr
  | .ldCFSrcA .de => .ldCFAtDEbitA
  | .ldCFSrcA .hl => .ldCFAtHLbitA
  | .ldCFSrcA .ix => .ldCFAtIXbitA
  | .ldCFSrcA .iy => .ldCFAtIYbitA
  | .ldCFSrcA .incSP => .ldCFAtIncSPbitA
  | .ldCFSrcA .hlC => .ldCFAtHLCbitA
  | .ldCFSrcA (.ixd d) => .ldCFAtIXdbitA d
  | .ldCFSrcA (.iyd d) => .ldCFAtIYdbitA d
  | .ldCFSrcA (.spd d) => .ldCFAtSPdbitA d
  | .ldCFSrcA (.hld d) => .ldCFAtHLdbitA d
  | .ldCFSrcA .pcA => .ldCFAtPCAbitA
  | .callSrc (.x x) => .callAtX x
  | .callSrc (.vw addr) => .callAtVW addr
  | .callSrc .de => .callAtDE
  | .callSrc .hl => .callAtHL
  | .callSrc .ix => .callAtIX
  | .callSrc .iy => .callAtIY
  | .callSrc .incSP => .callAtIncSP
  | .callSrc .hlC => .callAtHLC
  | .callSrc (.ixd d) => .callAtIXd d
  | .callSrc (.iyd d) => .callAtIYd d
  | .callSrc (.spd d) => .callAtSPd d
  | .callSrc (.hld d) => .callAtHLd d
  | .callSrc .pcA => .callAtPCA
  | .jpSrc (.x x) => .jpAtX x
  | .jpSrc (.vw addr) => .jpAtVW addr
  | .jpSrc .de => .jpAtDE
  | .jpSrc .hl => .jpAtHL
  | .jpSrc .ix => .jpAtIX
  | .jpSrc .iy => .jpAtIY
  | .jpSrc .incSP => .jpAtIncSP
  | .jpSrc .hlC => .jpAtHLC
  | .jpSrc (.ixd d) => .jpAtIXd d
  | .jpSrc (.iyd d) => .jpAtIYd d
  | .jpSrc (.spd d) => .jpAtSPd d
  | .jpSrc (.hld d) => .jpAtHLd d
  | .jpSrc .pcA => .jpAtPCA
  | .ldDstRR (.x x) rr => .ldAtXRR x rr
  | .ldDstRR (.vw addr) rr => .ldAtVWRR addr rr
  | .ldDstRR .de rr => .ldAtDERR rr
  | .ldDstRR .hl rr => .ldAtHLRR rr
  | .ldDstRR .ix rr => .ldAtIXRR rr
  | .ldDstRR .iy rr => .ldAtIYRR rr
  | .ldDstRR .spDec rr => .ldAtSPDecRR rr
  | .ldDstRR .hlC rr => .ldAtHLCRR rr
  | .ldDstRR (.ixd d) rr => .ldAtIXdRR d rr
  | .ldDstRR (.iyd d) rr => .ldAtIYdRR d rr
  | .ldDstRR (.spd d) rr => .ldAtSPdRR d rr
  | .ldDstRR (.hld d) rr => .ldAtHLdRR d rr
  | .ldDstR (.x x) r => .ldAtXR x r
  | .ldDstR (.vw addr) r => .ldAtVWR addr r
  | .ldDstR .de r => .ldAtDER r
  | .ldDstR .hl r => .ldAtHLR r
  | .ldDstR .ix r => .ldAtIXR r
  | .ldDstR .iy r => .ldAtIYR r
  | .ldDstR .spDec r => .ldAtSPDecR r
  | .ldDstR .hlC r => .ldAtHLCR r
  | .ldDstR (.ixd d) r => .ldAtIXdR d r
  | .ldDstR (.iyd d) r => .ldAtIYdR d r
  | .ldDstR (.spd d) r => .ldAtSPdR d r
  | .ldDstR (.hld d) r => .ldAtHLdR d r
  | .ldDstN (.x x) n => .ldAtXNLong x n
  | .ldDstN (.vw addr) n => .ldAtVWN addr n
  | .ldDstN .de n => .ldAtDEN n
  | .ldDstN .hl n => .ldAtHLNLong n
  | .ldDstN .ix n => .ldAtIXN n
  | .ldDstN .iy n => .ldAtIYN n
  | .ldDstN .spDec n => .ldAtSPDecN n
  | .ldDstN .hlC n => .ldAtHLCN n
  | .ldDstN (.ixd d) n => .ldAtIXdN d n
  | .ldDstN (.iyd d) n => .ldAtIYdN d n
  | .ldDstN (.spd d) n => .ldAtSPdN d n
  | .ldDstN (.hld d) n => .ldAtHLdN d n

/-- The instruction whose code this is: an assembler spelling (`TEST`, `DI`, `EI`; R99, R264) stands for the
basic instruction, every other instruction for itself. -/
noncomputable def Instr.basic (i : Instr) : Instr := Instr.ofForm i.form

/-! Register, bit and operation codes. -/

/-- Code of an 8-bit register (R22). -/
def Reg8.code (r : Reg8) : BitVec 3 :=
  match r with
  | .a => 0 | .w => 1 | .c => 2 | .b => 3 | .e => 4 | .d => 5 | .l => 6 | .h => 7

/-- 8-bit register of a code (R22). -/
def Reg8.ofCode (c : BitVec 3) : Reg8 :=
  match c.toNat with
  | 0 => .a | 1 => .w | 2 => .c | 3 => .b | 4 => .e | 5 => .d | 6 => .l | _ => .h

/-- Code of a 16-bit register (R23). -/
def Reg16.code (r : Reg16) : BitVec 3 :=
  match r with
  | .wa => 0 | .bc => 1 | .de => 2 | .hl => 3 | .ix => 4 | .iy => 5 | .sp => 6 | .hlAlt => 7

/-- 16-bit register of a code (R23). -/
def Reg16.ofCode (c : BitVec 3) : Reg16 :=
  match c.toNat with
  | 0 => .wa | 1 => .bc | 2 => .de | 3 => .hl | 4 => .ix | 5 => .iy | 6 => .sp | _ => .hlAlt

/-- The register pair code (R85; for `MUL` the code of the first byte, R210). -/
def Pair.code (p : Pair) : BitVec 3 :=
  match p with
  | .wa => 0 | .bc => 1 | .de => 2 | .hl => 3

/-- The first-byte register code of `PUSH gg`, `POP gg` (R24). -/
def IndexReg.code (g : IndexReg) : BitVec 3 :=
  match g with
  | .ix => 4 | .iy => 5

/-- The first-byte register code of `DIV` (R211). -/
def DivPair.code (p : DivPair) : BitVec 3 :=
  match p with
  | .wa => 0 | .de => 2 | .hl => 3

/-- The field `ooo` (R86). -/
def AluOp.code (op : AluOp) : BitVec 3 :=
  match op with
  | .addc => 0 | .add => 1 | .subb => 2 | .sub => 3 | .and => 4 | .xor => 5 | .or => 6 | .cmp => 7

/-- The operation of a field `ooo` (R86). -/
def AluOp.ofCode (c : BitVec 3) : AluOp :=
  match c.toNat with
  | 0 => .addc | 1 => .add | 2 => .subb | 3 => .sub | 4 => .and | 5 => .xor | 6 => .or | _ => .cmp

/-- The field `ccc` of the 2-byte `JR cc,a` (R87). -/
def Cond.code (c : Cond) : BitVec 3 :=
  match c with
  | .z => 0 | .nz => 1 | .cs => 2 | .cc => 3 | .le => 4 | .gt => 5 | .t => 6 | .f => 7

/-- The condition of a field `ccc` (R87). -/
def Cond.ofCode (c : BitVec 3) : Cond :=
  match c.toNat with
  | 0 => .z | 1 => .nz | 2 => .cs | 3 => .cc | 4 => .le | 5 => .gt | 6 => .t | _ => .f

/-- The field `ccc` of the 3-byte `JR cc,a` (R87). -/
def CondLong.code (c : CondLong) : BitVec 3 :=
  match c with
  | .m => 0 | .p => 1 | .slt => 2 | .sge => 3 | .sle => 4 | .sgt => 5 | .vs => 6 | .vc => 7

/-- The condition of a field `ccc` (R87). -/
def CondLong.ofCode (c : BitVec 3) : CondLong :=
  match c.toNat with
  | 0 => .m | 1 => .p | 2 => .slt | 3 => .sge | 4 => .sle | 5 => .sgt | 6 => .vs | _ => .vc

/-- The upper five bits of the code of `SET`, `CLR`, `CPL` on a bit `.b` (R91, R92). -/
def BitOp.high (op : BitOp) : BitVec 5 :=
  match op with
  | .set => 0b11000 | .clr => 0b11001 | .cpl => 0b11100

/-- The code of `SET`, `CLR`, `CPL` on a bit `.A` (R92). -/
def BitOp.codeA (op : BitOp) : Byte :=
  match op with
  | .set => 0xF2 | .clr => 0xFA | .cpl => 0xFB

/-- The second opcode of a 16-bit arithmetic shift (R91). -/
def Shift16.code (op : Shift16) : Byte :=
  match op with
  | .shlca => 0xF0 | .shrca => 0xF1

/-- The second opcode of an 8-bit shift or rotate (R91). -/
def Shift8.code (op : Shift8) : Byte :=
  match op with
  | .shlc => 0xF4 | .shrc => 0xF5 | .rolc => 0xF6 | .rorc => 0xF7

/-! Fields of an opcode byte (R85). -/

/-- Bits 7..3. -/
def high5 (v : Byte) : BitVec 5 := v.extractLsb' 3 5

/-- Bits 2..0. -/
def low3 (v : Byte) : BitVec 3 := v.extractLsb' 0 3

/-- Bits 7..6. -/
def high2 (v : Byte) : BitVec 2 := v.extractLsb' 6 2

/-- Bits 5..3. -/
def mid3 (v : Byte) : BitVec 3 := v.extractLsb' 3 3

/-- An opcode byte from its upper five and lower three bits. -/
def op53 (hi : BitVec 5) (lo : BitVec 3) : Byte := hi ++ lo

/-- An opcode byte from a 2-bit, a 3-bit and a 3-bit field. -/
def op233 (hi : BitVec 2) (mid lo : BitVec 3) : Byte := hi ++ mid ++ lo

/-! Decoding (R101). -/

/-- The bytes at an address and the four addresses after it: the longest instruction has five (R80). -/
structure Window where
  b0 : Byte
  b1 : Byte
  b2 : Byte
  b3 : Byte
  b4 : Byte
deriving DecidableEq, Repr

/-- The first five bytes of a list, missing ones 0. -/
def windowOf (l : List Byte) : Window :=
  { b0 := l.getD 0 0, b1 := l.getD 1 0, b2 := l.getD 2 0, b3 := l.getD 3 0, b4 := l.getD 4 0 }

/-- The five bytes in address order. -/
def windowBytes (w : Window) : List Byte := [w.b0, w.b1, w.b2, w.b3, w.b4]

/-- What decoding answers: an instruction, or a refusal with the bytes that make an undefined code
(`UndefinedInstruction(bytes)`, R110, R361). -/
inductive Decoded (α : Type) where
  | ok (a : α)
  | undefined (bytes : List Byte)
deriving DecidableEq, Repr

/-- After a register byte `0xE8+g` (R91): `c` is the code of `g`, `b` the second opcode, `n` and `m` the bytes
after it. `none` is an undefined code or a restricted combination (R84, R111, D22). -/
def decodeReg (c : BitVec 3) (b n m : Byte) : Option Form :=
  let k := low3 b
  let g := Reg8.ofCode c
  let gg := Reg16.ofCode c
  match high2 b with
  | 0b00#2 => some (.aluRG (AluOp.ofCode k) (Reg8.ofCode (mid3 b)) g)
  | 0b10#2 => some (.aluRRGG (AluOp.ofCode k) (Reg16.ofCode (mid3 b)) gg)
  | _ =>
    match high5 b with
    | 0b01000#5 => some (.ldRG (Reg8.ofCode k) g)
    | 0b01001#5 => if k = 7 then none else some (.ldRRGG (Reg16.ofCode k) gg)
    | 0b01010#5 => some (.xorCFGB g k)
    | 0b01011#5 => some (.ldCFGB g k)
    | 0b01100#5 => some (.aluGN (AluOp.ofCode k) g n)
    | 0b01101#5 => some (.aluGGMN (AluOp.ofCode k) gg (wordOf m n))
    | 0b01110#5 => some (.xchRG (Reg8.ofCode k) g)
    | 0b01111#5 => if k = 7 then none else some (.xchRRGG (Reg16.ofCode k) gg)
    | 0b11000#5 => some (.bitGB .set g k)
    | 0b11001#5 => some (.bitGB .clr g k)
    | 0b11010#5 => if c = 0 then some (.jrCCLong (CondLong.ofCode k) n) else none
    | 0b11011#5 =>
      match b with
      | 0xD8#8 => if c = 4 then some (.pushIndex .ix) else if c = 5 then some (.pushIndex .iy) else none
      | 0xD9#8 => if c = 4 then some (.popIndex .ix) else if c = 5 then some (.popIndex .iy) else none
      | 0xDA#8 => some (.daa g)
      | 0xDB#8 => some (.das g)
      | 0xDC#8 => if c = 0 then some .pushPSW else none
      | 0xDD#8 => if c = 0 then some .popPSW else none
      | 0xDE#8 => if c = 0 then some (.ldPSW n) else none
      | _ => none
    | 0b11100#5 => some (.bitGB .cpl g k)
    | 0b11101#5 => some (.ldGBCF g k)
    | _ =>
      match b with
      | 0xF0#8 => some (.shift16 .shlca gg)
      | 0xF1#8 => some (.shift16 .shrca gg)
      | 0xF2#8 =>
        if c = 0 then some (.mul .wa) else if c = 1 then some (.mul .bc)
        else if c = 2 then some (.mul .de) else if c = 3 then some (.mul .hl) else none
      | 0xF3#8 =>
        if c = 0 then some (.div .wa) else if c = 2 then some (.div .de)
        else if c = 3 then some (.div .hl) else none
      | 0xF4#8 => some (.shift8 .shlc g)
      | 0xF5#8 => some (.shift8 .shrc g)
      | 0xF6#8 => some (.shift8 .rolc g)
      | 0xF7#8 => some (.shift8 .rorc g)
      | 0xFA#8 => some (.negCS gg)
      | 0xFB#8 => if c = 0 then some .retn else none
      | 0xFD#8 => some (.callGG gg)
      | 0xFE#8 => some (.jpGG gg)
      | 0xFF#8 => some (.swap g)
      | _ => none

/-- After a source memory byte and its operand bytes (R92): `b` is the second opcode, `n` the byte after it. -/
def decodeSrc (s : Src) (b n : Byte) : Option Form :=
  let k := low3 b
  match high2 b with
  | 0b00#2 => some (.aluRSrc (AluOp.ofCode k) (Reg8.ofCode (mid3 b)) s)
  | 0b10#2 => some (.aluRRSrc (AluOp.ofCode k) (Reg16.ofCode (mid3 b)) s)
  | _ =>
    match high5 b with
    | 0b01000#5 => some (.ldRSrc (Reg8.ofCode k) s)
    | 0b01001#5 => if k = 7 then none else some (.ldRRSrc (Reg16.ofCode k) s)
    | 0b01010#5 => some (.xorCFSrcB s k)
    | 0b01011#5 => some (.ldCFSrcB s k)
    | 0b01100#5 => some (.aluSrcN (AluOp.ofCode k) s n)
    | 0b01110#5 => some (.xchRSrc (Reg8.ofCode k) s)
    | 0b11000#5 => some (.bitSrcB .set s k)
    | 0b11001#5 => some (.bitSrcB .clr s k)
    | 0b11011#5 => some (.xchRRSrc (Reg16.ofCode k) s)
    | 0b11100#5 => some (.bitSrcB .cpl s k)
    | 0b11101#5 => some (.ldSrcBCF s k)
    | _ =>
      match b with
      | 0xF0#8 => some (.incSrc s)
      | 0xF2#8 => some (.bitSrcA .set s)
      | 0xF3#8 => some (.ldSrcACF s)
      | 0xF6#8 => some (.rold s)
      | 0xF7#8 => some (.rord s)
      | 0xF8#8 => some (.decSrc s)
      | 0xFA#8 => some (.bitSrcA .clr s)
      | 0xFB#8 => some (.bitSrcA .cpl s)
      | 0xFC#8 => some (.ldCFSrcA s)
      | 0xFD#8 => some (.callSrc s)
      | 0xFE#8 => some (.jpSrc s)
      | _ => none

/-- After a destination memory byte and its operand bytes (R93). -/
def decodeDst (s : Dst) (b n : Byte) : Option Form :=
  match high5 b with
  | 0b01101#5 => if low3 b = 7 then none else some (.ldDstRR s (Reg16.ofCode (low3 b)))
  | 0b01111#5 => some (.ldDstR s (Reg8.ofCode (low3 b)))
  | _ => if b = 0xF9 then some (.ldDstN s n) else none

/-- The bytes of an undefined code are its opcode and operand bytes up to the second opcode (R361). -/
def decodedOr (f : Option Form) (bytes : List Byte) : Decoded Form :=
  match f with
  | some f => .ok f
  | none => .undefined bytes

/-- The second opcode follows a source memory byte with no operand byte. -/
def srcAt1 (m : Src) (w : Window) : Decoded Form := decodedOr (decodeSrc m w.b1 w.b2) [w.b0, w.b1]

/-- The second opcode follows a source memory byte and one operand byte. -/
def srcAt2 (m : Src) (w : Window) : Decoded Form := decodedOr (decodeSrc m w.b2 w.b3) [w.b0, w.b1, w.b2]

/-- The second opcode follows a source memory byte and two operand bytes. -/
def srcAt3 (m : Src) (w : Window) : Decoded Form :=
  decodedOr (decodeSrc m w.b3 w.b4) [w.b0, w.b1, w.b2, w.b3]

/-- As `srcAt1`, for a destination. -/
def dstAt1 (m : Dst) (w : Window) : Decoded Form := decodedOr (decodeDst m w.b1 w.b2) [w.b0, w.b1]

/-- As `srcAt2`, for a destination. -/
def dstAt2 (m : Dst) (w : Window) : Decoded Form := decodedOr (decodeDst m w.b2 w.b3) [w.b0, w.b1, w.b2]

/-- As `srcAt3`, for a destination. -/
def dstAt3 (m : Dst) (w : Window) : Decoded Form :=
  decodedOr (decodeDst m w.b3 w.b4) [w.b0, w.b1, w.b2, w.b3]

/-- The first-opcode map (R90) and what follows each first opcode (R83, R101). -/
def decodeForm (w : Window) : Decoded Form :=
  let b := w.b0
  let k := low3 b
  let x := w.b1
  let n := w.b2
  match high5 b with
  | 0b00000#5 =>
    match b with
    | 0x00#8 => .ok .nop
    | 0x04#8 => .ok .clrCF
    | 0x05#8 => .ok .setCF
    | 0x06#8 => .ok .cplCF
    | 0x07#8 => .ok (.cmpXN x n)
    | _ => .undefined [b]
  | 0b00001#5 =>
    match b with
    | 0x08#8 => .ok (.ldwXMN x (wordOf w.b3 w.b2))
    | 0x09#8 => .ok (.ldwHLMN (wordOf w.b2 w.b1))
    | 0x0A#8 => .ok (.ldXN x n)
    | 0x0B#8 => .ok (.ldHLN x)
    | 0x0C#8 => .ok (.ldAX x)
    | 0x0D#8 => .ok .ldAHL
    | 0x0E#8 => .ok (.ldXA x)
    | _ => .ok .ldHLA
  | 0b00010#5 => .ok (.ldAR (Reg8.ofCode k))
  | 0b00011#5 => .ok (.ldRN (Reg8.ofCode k) x)
  | 0b00100#5 => .ok (.incR (Reg8.ofCode k))
  | 0b00101#5 => .ok (.decR (Reg8.ofCode k))
  | 0b00110#5 => if k = 7 then .ok (.ldSPAdd x) else .ok (.incRR (Reg16.ofCode k))
  | 0b00111#5 => if k = 7 then .ok (.ldSPSub x) else .ok (.decRR (Reg16.ofCode k))
  | 0b01000#5 => .ok (.ldRA (Reg8.ofCode k))
  | 0b01001#5 => if k = 7 then srcAt1 .pcA w else .ok (.ldRRMN (Reg16.ofCode k) (wordOf w.b2 w.b1))
  | 0b01010#5 =>
    match b with
    | 0x50#8 => .ok (.pushPair .wa)
    | 0x51#8 => .ok (.pushPair .bc)
    | 0x52#8 => .ok (.pushPair .de)
    | 0x53#8 => .ok (.pushPair .hl)
    | 0x54#8 => dstAt2 (.ixd x) w
    | 0x55#8 => dstAt2 (.iyd x) w
    | 0x56#8 => dstAt2 (.spd x) w
    | _ => dstAt2 (.hld x) w
  | 0b01011#5 => .ok (.ldCFXB x k)
  | 0b01100#5 => .ok (.aluAN (AluOp.ofCode k) x)
  | 0b01101#5 => .undefined [b]
  | 0b01110#5 => .ok (.callv (b.extractLsb' 0 4))
  | 0b01111#5 => .ok (.callv (b.extractLsb' 0 4))
  | 0b10000#5 => .ok (.jrs true (b.extractLsb' 0 5))
  | 0b10001#5 => .ok (.jrs true (b.extractLsb' 0 5))
  | 0b10010#5 => .ok (.jrs true (b.extractLsb' 0 5))
  | 0b10011#5 => .ok (.jrs true (b.extractLsb' 0 5))
  | 0b10100#5 => .ok (.jrs false (b.extractLsb' 0 5))
  | 0b10101#5 => .ok (.jrs false (b.extractLsb' 0 5))
  | 0b10110#5 => .ok (.jrs false (b.extractLsb' 0 5))
  | 0b10111#5 => .ok (.jrs false (b.extractLsb' 0 5))
  | 0b11000#5 => .ok (.setXB x k)
  | 0b11001#5 => .ok (.clrXB x k)
  | 0b11010#5 =>
    match b with
    | 0xD0#8 => .ok (.popPair .wa)
    | 0xD1#8 => .ok (.popPair .bc)
    | 0xD2#8 => .ok (.popPair .de)
    | 0xD3#8 => .ok (.popPair .hl)
    | 0xD4#8 => srcAt2 (.ixd x) w
    | 0xD5#8 => srcAt2 (.iyd x) w
    | 0xD6#8 => srcAt2 (.spd x) w
    | _ => srcAt2 (.hld x) w
  | 0b11011#5 => .ok (.jrCC (Cond.ofCode k) x)
  | 0b11100#5 =>
    match b with
    | 0xE0#8 => srcAt2 (.x x) w
    | 0xE1#8 => srcAt3 (.vw (wordOf w.b2 w.b1)) w
    | 0xE2#8 => srcAt1 .de w
    | 0xE3#8 => srcAt1 .hl w
    | 0xE4#8 => srcAt1 .ix w
    | 0xE5#8 => srcAt1 .iy w
    | 0xE6#8 => srcAt1 .incSP w
    | _ => srcAt1 .hlC w
  | 0b11101#5 => decodedOr (decodeReg k w.b1 w.b2 w.b3) [w.b0, w.b1]
  | 0b11110#5 =>
    match b with
    | 0xF0#8 => dstAt2 (.x x) w
    | 0xF1#8 => dstAt3 (.vw (wordOf w.b2 w.b1)) w
    | 0xF2#8 => dstAt1 .de w
    | 0xF3#8 => dstAt1 .hl w
    | 0xF4#8 => dstAt1 .ix w
    | 0xF5#8 => dstAt1 .iy w
    | 0xF6#8 => dstAt1 .spDec w
    | _ => dstAt1 .hlC w
  | _ =>
    match b with
    | 0xF8#8 => .undefined [b]
    | 0xF9#8 => if x = 0x00 then .ok (.ldRBS false) else if x = 0x02 then .ok (.ldRBS true) else .undefined [b, x]
    | 0xFA#8 => .ok .ret
    | 0xFB#8 => .ok .reti
    | 0xFC#8 => .ok (.jrA x)
    | 0xFD#8 => .ok (.callMN (wordOf w.b2 w.b1))
    | 0xFE#8 => .ok (.jpMN (wordOf w.b2 w.b1))
    | _ => .ok .swi

/-- Decode the instruction at the start of a window. -/
noncomputable def decode (w : Window) : Decoded Instr :=
  match decodeForm w with
  | .ok f => .ok (Instr.ofForm f)
  | .undefined bytes => .undefined bytes

/-! Encoding. -/

/-- The first opcode of a source memory operand and its operand bytes (R83). -/
def Src.bytes (m : Src) : List Byte :=
  match m with
  | .x lo => [0xE0, lo]
  | .vw addr => [0xE1, loByte addr, hiByte addr]
  | .de => [0xE2]
  | .hl => [0xE3]
  | .ix => [0xE4]
  | .iy => [0xE5]
  | .incSP => [0xE6]
  | .hlC => [0xE7]
  | .ixd d => [0xD4, d]
  | .iyd d => [0xD5, d]
  | .spd d => [0xD6, d]
  | .hld d => [0xD7, d]
  | .pcA => [0x4F]

/-- The first opcode of a destination memory operand and its operand bytes (R83). -/
def Dst.bytes (m : Dst) : List Byte :=
  match m with
  | .x lo => [0xF0, lo]
  | .vw addr => [0xF1, loByte addr, hiByte addr]
  | .de => [0xF2]
  | .hl => [0xF3]
  | .ix => [0xF4]
  | .iy => [0xF5]
  | .spDec => [0xF6]
  | .hlC => [0xF7]
  | .ixd d => [0x54, d]
  | .iyd d => [0x55, d]
  | .spd d => [0x56, d]
  | .hld d => [0x57, d]

/-- The register byte `11101ggg` (R83). -/
def regByte (c : BitVec 3) : Byte := op53 0b11101 c

/-- The bytes of a form, lowest address first (R81, R82, R90 to R93). -/
def Form.encode (f : Form) : List Byte :=
  match f with
  | .nop => [0x00]
  | .clrCF => [0x04]
  | .setCF => [0x05]
  | .cplCF => [0x06]
  | .cmpXN x n => [0x07, x, n]
  | .ldwXMN x mn => [0x08, x, loByte mn, hiByte mn]
  | .ldwHLMN mn => [0x09, loByte mn, hiByte mn]
  | .ldXN x n => [0x0A, x, n]
  | .ldHLN n => [0x0B, n]
  | .ldAX x => [0x0C, x]
  | .ldAHL => [0x0D]
  | .ldXA x => [0x0E, x]
  | .ldHLA => [0x0F]
  | .ldAR r => [op53 0b00010 r.code]
  | .ldRN r n => [op53 0b00011 r.code, n]
  | .incR r => [op53 0b00100 r.code]
  | .decR r => [op53 0b00101 r.code]
  | .incRR rr => [op53 0b00110 rr.code]
  | .ldSPAdd d => [0x37, d]
  | .decRR rr => [op53 0b00111 rr.code]
  | .ldSPSub d => [0x3F, d]
  | .ldRA r => [op53 0b01000 r.code]
  | .ldRRMN rr mn => [op53 0b01001 rr.code, loByte mn, hiByte mn]
  | .pushPair p => [op53 0b01010 p.code]
  | .ldCFXB x b => [op53 0b01011 b, x]
  | .aluAN op n => [op53 0b01100 op.code, n]
  | .callv n => [0b0111#4 ++ n]
  | .jrs sense d => [(if sense then 0b100#3 else 0b101#3) ++ d]
  | .setXB x b => [op53 0b11000 b, x]
  | .clrXB x b => [op53 0b11001 b, x]
  | .popPair p => [op53 0b11010 p.code]
  | .jrCC c d => [op53 0b11011 c.code, d]
  | .ldRBS n => [0xF9, if n then 0x02 else 0x00]
  | .ret => [0xFA]
  | .reti => [0xFB]
  | .jrA d => [0xFC, d]
  | .callMN mn => [0xFD, loByte mn, hiByte mn]
  | .jpMN mn => [0xFE, loByte mn, hiByte mn]
  | .swi => [0xFF]
  | .aluRG op r g => [regByte g.code, op233 0b00 r.code op.code]
  | .aluGN op g n => [regByte g.code, op53 0b01100 op.code, n]
  | .aluGGMN op gg mn => [regByte gg.code, op53 0b01101 op.code, loByte mn, hiByte mn]
  | .aluRRGG op rr gg => [regByte gg.code, op233 0b10 rr.code op.code]
  | .ldRG r g => [regByte g.code, op53 0b01000 r.code]
  | .ldRRGG rr gg => [regByte gg.code, op53 0b01001 rr.code]
  | .xorCFGB g b => [regByte g.code, op53 0b01010 b]
  | .ldCFGB g b => [regByte g.code, op53 0b01011 b]
  | .xchRG r g => [regByte g.code, op53 0b01110 r.code]
  | .xchRRGG rr gg => [regByte gg.code, op53 0b01111 rr.code]
  | .bitGB op g b => [regByte g.code, op53 op.high b]
  | .jrCCLong c d => [regByte 0, op53 0b11010 c.code, d]
  | .pushIndex g => [regByte g.code, 0xD8]
  | .popIndex g => [regByte g.code, 0xD9]
  | .daa g => [regByte g.code, 0xDA]
  | .das g => [regByte g.code, 0xDB]
  | .pushPSW => [regByte 0, 0xDC]
  | .popPSW => [regByte 0, 0xDD]
  | .ldPSW n => [regByte 0, 0xDE, n]
  | .ldGBCF g b => [regByte g.code, op53 0b11101 b]
  | .shift16 op gg => [regByte gg.code, op.code]
  | .mul p => [regByte p.code, 0xF2]
  | .div p => [regByte p.code, 0xF3]
  | .shift8 op g => [regByte g.code, op.code]
  | .negCS gg => [regByte gg.code, 0xFA]
  | .retn => [regByte 0, 0xFB]
  | .callGG gg => [regByte gg.code, 0xFD]
  | .jpGG gg => [regByte gg.code, 0xFE]
  | .swap g => [regByte g.code, 0xFF]
  | .aluRSrc op r m => m.bytes ++ [op233 0b00 r.code op.code]
  | .aluSrcN op m n => m.bytes ++ [op53 0b01100 op.code, n]
  | .aluRRSrc op rr m => m.bytes ++ [op233 0b10 rr.code op.code]
  | .ldRSrc r m => m.bytes ++ [op53 0b01000 r.code]
  | .ldRRSrc rr m => m.bytes ++ [op53 0b01001 rr.code]
  | .xorCFSrcB m b => m.bytes ++ [op53 0b01010 b]
  | .ldCFSrcB m b => m.bytes ++ [op53 0b01011 b]
  | .xchRSrc r m => m.bytes ++ [op53 0b01110 r.code]
  | .bitSrcB op m b => m.bytes ++ [op53 op.high b]
  | .xchRRSrc rr m => m.bytes ++ [op53 0b11011 rr.code]
  | .ldSrcBCF m b => m.bytes ++ [op53 0b11101 b]
  | .incSrc m => m.bytes ++ [0xF0]
  | .bitSrcA op m => m.bytes ++ [op.codeA]
  | .ldSrcACF m => m.bytes ++ [0xF3]
  | .rold m => m.bytes ++ [0xF6]
  | .rord m => m.bytes ++ [0xF7]
  | .decSrc m => m.bytes ++ [0xF8]
  | .ldCFSrcA m => m.bytes ++ [0xFC]
  | .callSrc m => m.bytes ++ [0xFD]
  | .jpSrc m => m.bytes ++ [0xFE]
  | .ldDstRR m rr => m.bytes ++ [op53 0b01101 rr.code]
  | .ldDstR m r => m.bytes ++ [op53 0b01111 r.code]
  | .ldDstN m n => m.bytes ++ [0xF9, n]

/-- The bytes of an instruction, lowest address first. -/
def encode (i : Instr) : List Byte := i.form.encode

/-- The length of an instruction in bytes (R89): that of its encoding. -/
def Instr.length (i : Instr) : Nat := (encode i).length

/-! The opcode table's numbering of an instruction's bits. -/

/-- Byte `k` of an instruction of `n` bytes that spec/opcode_table.json writes as one number: the first byte is
the most significant (98_reader.md: the table's match and mask "read as one number"; log entry 14). A byte
beyond the `n`-th is 0. -/
def tableByte (n w k : Nat) : Byte := if k < n then BitVec.ofNat 8 (w / 2 ^ (8 * (n - 1 - k))) else 0

/-- The window of an instruction whose `nbits` bits are `w`. -/
def tableWindow (nbits w : Nat) : Window :=
  let n := (nbits + 7) / 8
  { b0 := tableByte n w 0, b1 := tableByte n w 1, b2 := tableByte n w 2, b3 := tableByte n w 3,
    b4 := tableByte n w 4 }

/-- The instruction the decoder reads from an instruction's bits, numbered as spec/opcode_table.json numbers
them; `none` where it refuses. -/
noncomputable def decodeTableWord (nbits w : Nat) : Option Instr :=
  match decode (tableWindow nbits w) with
  | .ok i => some i
  | .undefined _ => none

end Sys2Proof
end

