-- ==== Sys2Proof/Machine/Memory.lean ====
section
/-!
DEFINITION. A 65,536-byte area as a sparse list of cells in one canonical form (spec 20_memory.md R50, R51).
The same type holds the data area and the code area.
-/

namespace Sys2Proof.Machine

/-- An area: cells in strictly rising address order, none holding what an unlisted address reads as. -/
abbrev Mem := List Host.Cell

/-- What an address that no cell lists reads as. DESIGN CHOICE (log entry 2, unsafe): the spec leaves the
contents of the data area after power-on open and the code area is given by the host (R42). -/
def memDefault : Byte := 0

/-- The byte at an address. -/
def memGet : Mem → Nat → Byte
  | [], _ => memDefault
  | (k, v) :: rest, a => if a = k then v else memGet rest a

/-- Store a byte; writing what an unlisted address reads as removes the cell. -/
def memPut : Mem → Nat → Byte → Mem
  | [], a, v => if v = memDefault then [] else [(a, v)]
  | (k, w) :: rest, a, v =>
    if a < k then (if v = memDefault then (k, w) :: rest else (a, v) :: (k, w) :: rest)
    else if a = k then (if v = memDefault then rest else (a, v) :: rest)
    else (k, w) :: memPut rest a v

/-- Every address of the list is above `lo`, the addresses rise strictly, none is beyond `0xFFFF`, and no
cell holds the default. -/
def memWfAbove : Option Nat → Mem → Bool
  | _, [] => true
  | lo, (k, v) :: rest =>
    (match lo with | none => true | some l => decide (l < k)) && decide (k < 65536) && decide (v ≠ memDefault)
      && memWfAbove (some k) rest

/-- The canonical form of an area. -/
def memWf (m : Mem) : Bool := memWfAbove none m

end Sys2Proof.Machine
end

