-- ==== Sys2Proof/Machine/State.lean ====
section
/-!
DEFINITION. The state of the TLCS-870/C1 as plain data (spec 10_state.md R20), the reasons a step can stop,
and the state after reset (R42, R380).
-/

namespace Sys2Proof.Machine

/-- One register bank (R20, R25): the eight 8-bit general registers and the two index registers.
The pairs WA, BC, DE, HL are views of the bytes (R21). -/
structure Bank where
  /-- A, code 0 (R22); low byte of WA -/
  a : Byte
  /-- W, code 1; high byte of WA -/
  w : Byte
  /-- C, code 2; low byte of BC -/
  c : Byte
  /-- B, code 3; high byte of BC -/
  b : Byte
  /-- E, code 4; low byte of DE -/
  e : Byte
  /-- D, code 5; high byte of DE -/
  d : Byte
  /-- L, code 6; low byte of HL -/
  l : Byte
  /-- H, code 7; high byte of HL -/
  h : Byte
  /-- IX (R20, D10) -/
  ix : Word
  /-- IY (R20, D10) -/
  iy : Word
deriving DecidableEq, Repr

/-- The program status word (R29, R30): six flags and the register bank selector. Bit 0 of the byte is no
part of PSW. -/
structure Psw where
  /-- jump status flag, bit 7 (R31) -/
  jf : Bool
  /-- zero flag, bit 6 (R32) -/
  zf : Bool
  /-- carry flag, bit 5 (R33) -/
  cf : Bool
  /-- half-carry flag, bit 4 (R34) -/
  hf : Bool
  /-- sign flag, bit 3 (R35) -/
  sf : Bool
  /-- overflow flag, bit 2 (R36) -/
  vf : Bool
  /-- register bank selector, bit 1 (R25): `false` is BANK0, `true` is BANK1 -/
  rbs : Bool
deriving DecidableEq, Repr

/-- What the host presents at an instruction boundary (R13, R356, R380). -/
inductive HostEvent where
  /-- the reset event (R380) -/
  | reset
  /-- an interrupt request `(s, nm)` of source `source` (R356) -/
  | interrupt (source : Nat) (nonMaskable : Bool)
deriving DecidableEq, Repr

/-- The machine (R20). -/
structure State where
  /-- BANK0, selected by `RBS = 0` (R25) -/
  bank0 : Bank
  /-- BANK1, selected by `RBS = 1` (R25) -/
  bank1 : Bank
  /-- stack pointer, a data-area address (R28) -/
  sp : Word
  /-- program counter, a code-area address (R26); while an instruction executes, its first byte's address -/
  pc : Word
  /-- program status word (R29) -/
  psw : Psw
  /-- interrupt master enable flag (R38), seen as bit 0 of data address 0x003A (R57) -/
  imf : Bool
  /-- the data area (R50); the cell at 0x003A holds bits 7..1 of that byte, its bit 0 is `imf` -/
  data : Mem
  /-- the code area (R51) -/
  code : Mem
  /-- the event the host presents at the next instruction boundary, if any (R356) -/
  event : Option HostEvent
  /-- the MODEL's own counter: how many free values have been drawn (log entry 5) -/
  draws : Nat
deriving DecidableEq, Repr

/-- Faults. There is none: no instruction raises a synchronous fault and no access fails (R351, R75; 93:
"fault, stuck: not used"), so the type has no constructor. Safe. -/
inductive Fault where
deriving DecidableEq, Repr

/-- Refusals: the step has no successor state (R110, R361, D5). -/
inductive Refusal where
  /-- Raised by `exec` for an instruction that has no meaning in the model yet; no arm uses it. Safe. -/
  | notModelled (mnemonic : String)
  /-- Raised by `step` when the bytes at `pc` are an undefined code (R110, R111, R361). `bytes` is the first
  opcode, with for a prefixed form the prefix's operand bytes and the second opcode. Safe: the hardware
  goes on in a way the spec does not give. -/
  | undefinedInstruction (bytes : List Byte)
deriving DecidableEq, Repr

/-- A bank with every register 0. DESIGN CHOICE (log entry 1): R42 gives no value. -/
def Bank.zero : Bank :=
  { a := 0, w := 0, c := 0, b := 0, e := 0, d := 0, l := 0, h := 0, ix := 0, iy := 0 }

/-- The machine right after reset (R42, R380): `IMF = 0`, `RBS = 0`, PC the code word at `RESET_VECTOR` of a
code area with nothing listed. Every register and flag that R42 leaves unspecified is 0: DESIGN CHOICE, log
entry 1 (unsafe). The host's program is loaded from outside the machine (log entry 12). -/
def State.reset : State :=
  { bank0 := Bank.zero
    bank1 := Bank.zero
    sp := 0
    pc := wordOf (memGet [] (Config.resetVector + 1).toNat) (memGet [] Config.resetVector.toNat)
    psw := { jf := false, zf := false, cf := false, hf := false, sf := false, vf := false, rbs := false }
    imf := false
    data := []
    code := []
    event := none
    draws := 0 }

end Sys2Proof.Machine
end

