-- ==== Sys2Proof/Machine/Ops.lean ====
section
/-!
DEFINITION. The named operations over registers, the two areas, the stack and PSW; the free values; taking
an exception and returning from one; the host's events. Every instruction of this machine answers a next
state, so an operation is a function from state to state.
-/

namespace Sys2Proof.Machine

/-- The outcome of an instruction or of a step. -/
abbrev Result := Host.Outcome State Fault Refusal

/-! One setter for each field of State. -/

/-- Set BANK0. -/
def State.withBank0 (s : State) (v : Bank) : State := { s with bank0 := v }
/-- Set BANK1. -/
def State.withBank1 (s : State) (v : Bank) : State := { s with bank1 := v }
/-- `SP <- v`. -/
def State.withSp (s : State) (v : Word) : State := { s with sp := v }
/-- `pc <- v`. -/
def State.withPc (s : State) (v : Word) : State := { s with pc := v }
/-- Set PSW. -/
def State.withPsw (s : State) (v : Psw) : State := { s with psw := v }
/-- `IMF <- v`. -/
def State.withImf (s : State) (v : Bool) : State := { s with imf := v }
/-- Replace the data area. -/
def State.withData (s : State) (v : Mem) : State := { s with data := v }
/-- Replace the code area (the host only: no instruction writes it, R51). -/
def State.withCode (s : State) (v : Mem) : State := { s with code := v }
/-- Set what the host presents (R356). -/
def State.withEvent (s : State) (v : Option HostEvent) : State := { s with event := v }
/-- Set the model's draw counter. -/
def State.withDraws (s : State) (v : Nat) : State := { s with draws := v }

/-! Program counter (R26). -/

/-- `$ + k`: with `k` the instruction's length this is `NxtOp` (R9, R320), modulo `2^16` (D3). -/
def State.pcPlus (s : State) (k : Nat) : Word := s.pc + BitVec.ofNat 16 k

/-- `pc <- NxtOp` of an instruction of `k` bytes (R26). -/
def State.advance (s : State) (k : Nat) : State := s.withPc (s.pcPlus k)

/-! Registers (R21 to R25). -/

/-- The bank RBS selects (R25). -/
def State.bank (s : State) : Bank := if s.psw.rbs then s.bank1 else s.bank0

/-- Replace the bank RBS selects. -/
def State.withBank (s : State) (v : Bank) : State := if s.psw.rbs then s.withBank1 v else s.withBank0 v

/-- The 8-bit register of a bank (R22). -/
def bankGet8 (k : Bank) : Reg8 → Byte
  | .a => k.a
  | .w => k.w
  | .c => k.c
  | .b => k.b
  | .e => k.e
  | .d => k.d
  | .l => k.l
  | .h => k.h

/-- Write the 8-bit register of a bank (R22). -/
def bankSet8 (k : Bank) (r : Reg8) (v : Byte) : Bank :=
  match r with
  | .a => { k with a := v }
  | .w => { k with w := v }
  | .c => { k with c := v }
  | .b => { k with b := v }
  | .e => { k with e := v }
  | .d => { k with d := v }
  | .l => { k with l := v }
  | .h => { k with h := v }

/-- `r8[c]` (R22): read an 8-bit register of the current bank. -/
def readR8 (s : State) (r : Reg8) : Byte := bankGet8 s.bank r

/-- `r8[c] <- v` (R22). -/
def writeR8 (s : State) (r : Reg8) (v : Byte) : State := s.withBank (bankSet8 s.bank r v)

/-- `r16[c]` (R23): read a 16-bit register; the first-named byte of a pair is the high one (R21). -/
def readR16 (s : State) : Reg16 → Word
  | .wa => wordOf s.bank.w s.bank.a
  | .bc => wordOf s.bank.b s.bank.c
  | .de => wordOf s.bank.d s.bank.e
  | .hl => wordOf s.bank.h s.bank.l
  | .ix => s.bank.ix
  | .iy => s.bank.iy
  | .sp => s.sp
  | .hlAlt => wordOf s.bank.h s.bank.l

/-- `r16[c] <- v` (R23): writing a pair writes both halves (R21). -/
def writeR16 (s : State) (r : Reg16) (v : Word) : State :=
  match r with
  | .wa => s.withBank { s.bank with w := hiByte v, a := loByte v }
  | .bc => s.withBank { s.bank with b := hiByte v, c := loByte v }
  | .de => s.withBank { s.bank with d := hiByte v, e := loByte v }
  | .hl => s.withBank { s.bank with h := hiByte v, l := loByte v }
  | .ix => s.withBank { s.bank with ix := v }
  | .iy => s.withBank { s.bank with iy := v }
  | .sp => s.withSp v
  | .hlAlt => s.withBank { s.bank with h := hiByte v, l := loByte v }

/-- The pair of a 2-bit register field (R85), as a 16-bit register. -/
def pairReg : Pair → Reg16
  | .wa => .wa
  | .bc => .bc
  | .de => .de
  | .hl => .hl

/-- The index register of a prefixed push or pop (R24), as a 16-bit register. -/
def indexReg : IndexReg → Reg16
  | .ix => .ix
  | .iy => .iy

/-- The dividend of `DIV` (R211), as a 16-bit register. -/
def divReg : DivPair → Reg16
  | .wa => .wa
  | .de => .de
  | .hl => .hl

/-! The two areas (R50 to R57). -/

/-- `MemRead(a, 1)` (R52, R57): address 0x003A gives the stored bits 7..1 with IMF as bit 0. -/
def memRead8 (s : State) (a : Word) : Byte :=
  if a = Config.imfAddr then setBit (memGet s.data a.toNat) 0 s.imf else memGet s.data a.toNat

/-- The data area after a byte is stored; at 0x003A only bits 7..1 are kept in the area (R57). -/
def dataPut (m : Mem) (a : Word) (v : Byte) : Mem :=
  memPut m a.toNat (if a = Config.imfAddr then setBit v 0 false else v)

/-- `MemWrite(a, 1, v)` (R54, R57): at 0x003A bit 0 of the value goes to IMF. -/
def memWrite8 (s : State) (a : Word) (v : Byte) : State :=
  (s.withData (dataPut s.data a v)).withImf (if a = Config.imfAddr then bitOf v 0 else s.imf)

/-- The address of the second byte of a 2-byte data access (R53, R54, D4; log entry 4). -/
def nextDataAddr (a : Word) : Word := if a = 0xFFFF then Config.nextAfterFFFF else a + 1

/-- `MemRead(a, 2)` (R53): the byte at the lower address is the low byte. -/
def memRead16 (s : State) (a : Word) : Word := wordOf (memRead8 s (nextDataAddr a)) (memRead8 s a)

/-- `MemWrite(a, 2, v)` (R54): low byte first, then the high byte at the next address. -/
def memWrite16 (s : State) (a : Word) (v : Word) : State :=
  memWrite8 (memWrite8 s a (loByte v)) (nextDataAddr a) (hiByte v)

/-- `CodeRead(a, 1)` (R55). -/
def codeRead8 (s : State) (a : Word) : Byte := memGet s.code a.toNat

/-- `CodeRead(a, 2)` (R55): the low byte at the lower address, addresses modulo `2^16`. -/
def codeRead16 (s : State) (a : Word) : Word := wordOf (codeRead8 s (a + 1)) (codeRead8 s a)

/-! The stack (R28): SP points at the next free byte and the stack grows downward. -/

/-- Push a word (R144, R320): the high byte at SP, then the low byte at SP-1, then SP moves down by 2. -/
def push16 (s : State) (v : Word) : State :=
  (memWrite8 (memWrite8 s s.sp (hiByte v)) (s.sp - 1) (loByte v)).withSp (s.sp - 2)

/-- The word a pop takes (R145, R328): SP moves up by 2, then the high byte is at SP and the low byte at
SP-1. -/
def poppedWord (s : State) : Word := wordOf (memRead8 s (s.sp + 2)) (memRead8 s (s.sp + 1))

/-! PSW as a byte (R29, R30). -/

/-- PSW in bits 7..1 and a given bit 0. -/
def pswByte (p : Psw) (bit0 : Bool) : Byte :=
  BitVec.ofBool p.jf ++ BitVec.ofBool p.zf ++ BitVec.ofBool p.cf ++ BitVec.ofBool p.hf ++
    BitVec.ofBool p.sf ++ BitVec.ofBool p.vf ++ BitVec.ofBool p.rbs ++ BitVec.ofBool bit0

/-- PSW from bits 7..1 of a byte; bit 0 is not part of PSW. -/
def pswOfByte (v : Byte) : Psw :=
  { jf := bitOf v 7, zf := bitOf v 6, cf := bitOf v 5, hf := bitOf v 4, sf := bitOf v 3, vf := bitOf v 2,
    rbs := bitOf v 1 }

/-! Free values (R9; log entry 5): a draw reads the opaque value of the counter and advances it. -/

/-- The value `any1` draws next. -/
def freeBit (s : State) : Bool := Config.any1 s.draws

/-- The value `any8` draws next. -/
def freeByte (s : State) : Byte := Config.any8 s.draws

/-- Advance the draw counter past the value just drawn. -/
def drawn (s : State) : State := s.withDraws (s.draws + 1)

/-! Taking an exception and returning from one. -/

/-- The one exception entry (R352; `SWI` R333, accepted interrupt R356): PSW with IMF as bit 0 at SP, the
return address high byte at SP-1 and low byte at SP-2, SP minus 3, `IMF <- 0` after the writes, PC from the
code word at the vector. -/
def enterException (s : State) (ret vector : Word) : State :=
  let s1 := memWrite8 s s.sp (pswByte s.psw s.imf)
  let s2 := memWrite8 s1 (s.sp - 1) (hiByte ret)
  let s3 := memWrite8 s2 (s.sp - 2) (loByte ret)
  ((s3.withSp (s.sp - 3)).withImf false).withPc (codeRead16 s vector)

/-- The one return (R358; `RETI` R329, `RETN` R330): the return address from SP+1 (low) and SP+2 (high), then
the byte at SP+3 into PSW (bits 7..1) and IMF (bit 0); SP plus 3. -/
def returnFromException (s : State) : State :=
  let b := memRead8 s (s.sp + 3)
  (((s.withSp (s.sp + 3)).withPsw (pswOfByte b)).withImf (bitOf b 0)).withPc (poppedWord s)

/-! The host's events (R356, R380). -/

/-- A bank of unspecified registers, drawn from counter value `k` on (R380). -/
def freeBank (k : Nat) : Bank :=
  { a := Config.any8 k, w := Config.any8 (k + 1), c := Config.any8 (k + 2), b := Config.any8 (k + 3),
    e := Config.any8 (k + 4), d := Config.any8 (k + 5), l := Config.any8 (k + 6), h := Config.any8 (k + 7),
    ix := wordOf (Config.any8 (k + 8)) (Config.any8 (k + 9)),
    iy := wordOf (Config.any8 (k + 10)) (Config.any8 (k + 11)) }

/-- A data area of unspecified contents (R380), in canonical form. -/
def freeData (k : Nat) : Mem := (Config.anyData k).foldl (fun m c => dataPut m c.1 c.2) []

/-- The reset event (R380): `IMF <- 0`, `RBS <- 0`, PC from the code word at `RESET_VECTOR`, nothing pushed,
the code area kept; every other piece of state unspecified (log entry 10). -/
def resetEvent (s : State) : State :=
  let k := s.draws
  { bank0 := freeBank k
    bank1 := freeBank (k + 12)
    sp := wordOf (Config.any8 (k + 24)) (Config.any8 (k + 25))
    pc := codeRead16 s Config.resetVector
    psw := { jf := Config.any1 (k + 26), zf := Config.any1 (k + 27), cf := Config.any1 (k + 28),
             hf := Config.any1 (k + 29), sf := Config.any1 (k + 30), vf := Config.any1 (k + 31), rbs := false }
    imf := false
    data := freeData (k + 32)
    code := s.code
    event := none
    draws := k + 33 }

/-- The entry of an accepted interrupt request (R356.4): the exception entry with the current `pc` as the
return address and `INT_VECTOR(s)` as the vector. The request is consumed. -/
def enterInterrupt (s : State) (source : Nat) : State :=
  enterException (s.withEvent none) s.pc (Config.intVector source)

/-- What happens at an instruction boundary before the fetch (R356, R357, R380): a reset event is taken
ungated; a request is accepted if it is non-maskable or `IMF = 1`; one that is not accepted stays with the
host and the instruction runs. -/
def takeEvent (s : State) : Option State :=
  match s.event with
  | none => none
  | some .reset => some (resetEvent s)
  | some (.interrupt source nonMaskable) =>
    if nonMaskable || s.imf then some (enterInterrupt s source) else none

end Sys2Proof.Machine
end

