-- ==== Sys2Proof/Machine/Flags.lean ====
section
/-!
DEFINITION. Every flag computation of the spec: addition, subtraction, logic (41_arithmetic.md R181 to R184),
the step group, the decimal-adjust tables (R207, R208), the conditions of the jumps (30_encoding.md R87), and
the writes of flag groups.
-/

namespace Sys2Proof.Machine

/-! Writes of flags. A flag that is not named keeps its value (R37). -/

/-- `JF <- j`. -/
def setJ (s : State) (j : Bool) : State := s.withPsw { s.psw with jf := j }

/-- `JF <- j; ZF <- z`. -/
def setJZ (s : State) (j z : Bool) : State := s.withPsw { s.psw with jf := j, zf := z }

/-- `CF <- c; JF <- j`. -/
def setJC (s : State) (j c : Bool) : State := s.withPsw { s.psw with jf := j, cf := c }

/-- `CF <- c; JF <- j; ZF <- z`. -/
def setJZC (s : State) (j z c : Bool) : State := s.withPsw { s.psw with jf := j, zf := z, cf := c }

/-- The flags of an 8-bit load (R120): `JF <- 1; ZF <- (v = 0x00)`. -/
def setLoadFlags (s : State) (v : Byte) : State := setJZ s true (decide (v = 0))

/-! Two-operand arithmetic and logic. -/

/-- The flags that `ADD_n` and `SUB_n` compute beside ZF (R181, R182). `half` is HF of the 8-bit form. -/
structure ArithFlags where
  carry : Bool
  half : Bool
  sign : Bool
  overflow : Bool
deriving DecidableEq, Repr

/-- What `ALU_n` computes (R184): the result, its zero test, and the arithmetic flags of the six operations
that have them (`none` for logic, R183). -/
structure AluOut (n : Nat) where
  res : BitVec n
  zero : Bool
  arith : Option ArithFlags
deriving DecidableEq, Repr

/-- Carry in as a number. -/
def carryNat (c : Bool) : Nat := if c then 1 else 0

/-- `ADD_n(a, b, c)` (R181). The formula of VF is PRESUMED by the spec (log entry 7). -/
def addN {n : Nat} (a b : BitVec n) (c : Bool) : AluOut n :=
  let sum := a.toNat + b.toNat + carryNat c
  let res := BitVec.ofNat n sum
  { res := res
    zero := decide (res = 0)
    arith := some
      { carry := decide (2 ^ n ≤ sum)
        half := decide (16 ≤ a.toNat % 16 + b.toNat % 16 + carryNat c)
        sign := res.msb
        overflow := a.msb == b.msb && res.msb != a.msb } }

/-- `SUB_n(a, b, c)` (R182): CF and HF are borrows. -/
def subN {n : Nat} (a b : BitVec n) (c : Bool) : AluOut n :=
  let diff : Int := (a.toNat : Int) - b.toNat - carryNat c
  let res := BitVec.ofInt n diff
  { res := res
    zero := decide (res = 0)
    arith := some
      { carry := decide (diff < 0)
        half := decide (((a.toNat % 16 : Nat) : Int) - (b.toNat % 16 : Nat) - carryNat c < 0)
        sign := res.msb
        overflow := a.msb != b.msb && res.msb != a.msb } }

/-- `LOGIC_n` (R183): only the zero test. -/
def logicN {n : Nat} (res : BitVec n) : AluOut n := { res := res, zero := decide (res = 0), arith := none }

/-- The computation the operation selects (R184): `x` first operand, `y` second, `cf` CF before. -/
def aluOut {n : Nat} (op : AluOp) (x y : BitVec n) (cf : Bool) : AluOut n :=
  match op with
  | .addc => addN x y cf
  | .add => addN x y false
  | .subb => subN x y cf
  | .sub => subN x y false
  | .and => logicN (x &&& y)
  | .xor => logicN (x ^^^ y)
  | .or => logicN (x ||| y)
  | .cmp => subN x y false

/-- Whether the operation writes its first operand (R184): all but `CMP`. -/
def aluWrites (op : AluOp) : Bool :=
  match op with
  | .cmp => false
  | _ => true

/-- Whether JF receives CF' (R184: `ADDC ADD SUBB SUB`); otherwise it receives ZF'. -/
def aluJumpIsCarry (op : AluOp) : Bool :=
  match op with
  | .addc | .add | .subb | .sub => true
  | .and | .xor | .or | .cmp => false

/-- PSW after an operation, `half` being the value HF receives if it is written (R184). -/
def aluPsw {n : Nat} (op : AluOp) (o : AluOut n) (half : Bool) (p : Psw) : Psw :=
  match o.arith with
  | none => { p with jf := o.zero, zf := o.zero }
  | some f =>
    { p with jf := if aluJumpIsCarry op then f.carry else o.zero, zf := o.zero, cf := f.carry, hf := half,
             sf := f.sign, vf := f.overflow }

/-- Write the flags of an 8-bit operation (R181 to R184). -/
def setAluFlags8 (op : AluOp) (o : AluOut 8) (s : State) : State :=
  s.withPsw (aluPsw op o (match o.arith with | none => s.psw.hf | some f => f.half) s.psw)

/-- Write the flags of a 16-bit operation: HF is undefined (R34, D16), a free value. Log entry 5. -/
def setAluFlags16 (op : AluOp) (o : AluOut 16) (s : State) : State :=
  match o.arith with
  | none => s.withPsw (aluPsw op o s.psw.hf s.psw)
  | some _ => drawn (s.withPsw (aluPsw op o (freeBit s) s.psw))

/-! Decimal adjust (R207, R208). -/

/-- A row of the source's adjustment tables: CF before, range of the upper nibble, HF before, range of the
lower nibble, value added, CF after. -/
structure AdjustRow where
  cf : Bool
  hiMin : Nat
  hiMax : Nat
  hf : Bool
  loMin : Nat
  loMax : Nat
  add : Byte
  cfAfter : Bool
deriving DecidableEq, Repr

/-- The nine rows of `DAA` (R207). -/
def daaRows : List AdjustRow :=
  [ ⟨false, 0x0, 0x9, false, 0x0, 0x9, 0x00, false⟩,
    ⟨false, 0x0, 0x8, false, 0xA, 0xF, 0x06, false⟩,
    ⟨false, 0x0, 0x9, true, 0x0, 0x3, 0x06, false⟩,
    ⟨false, 0xA, 0xF, false, 0x0, 0x9, 0x60, true⟩,
    ⟨false, 0x9, 0xF, false, 0xA, 0xF, 0x66, true⟩,
    ⟨false, 0xA, 0xF, true, 0x0, 0x3, 0x66, true⟩,
    ⟨true, 0x0, 0x2, false, 0x0, 0x9, 0x60, true⟩,
    ⟨true, 0x0, 0x2, false, 0xA, 0xF, 0x66, true⟩,
    ⟨true, 0x0, 0x3, true, 0x0, 0x3, 0x66, true⟩ ]

/-- The four rows of `DAS` (R208). -/
def dasRows : List AdjustRow :=
  [ ⟨false, 0x0, 0x9, false, 0x0, 0x9, 0x00, false⟩,
    ⟨false, 0x0, 0x8, true, 0x6, 0xF, 0xFA, false⟩,
    ⟨true, 0x7, 0xF, false, 0x0, 0x9, 0xA0, true⟩,
    ⟨true, 0x6, 0xF, true, 0x6, 0xF, 0x9A, true⟩ ]

/-- Whether `(CF, upper nibble, HF, lower nibble)` matches the row. -/
def rowMatches (cf hf : Bool) (v : Byte) (row : AdjustRow) : Bool :=
  row.cf == cf && row.hf == hf && decide (row.hiMin ≤ v.toNat / 16) && decide (v.toNat / 16 ≤ row.hiMax)
    && decide (row.loMin ≤ v.toNat % 16) && decide (v.toNat % 16 ≤ row.loMax)

/-- The row that applies, if any. -/
def adjustRow (rows : List AdjustRow) (cf hf : Bool) (v : Byte) : Option AdjustRow :=
  rows.find? (rowMatches cf hf v)

/-! Jump conditions (R87). -/

/-- Condition of the 2-byte `JR cc,a` on PSW before the instruction (R294). -/
def condHolds (c : Cond) (p : Psw) : Bool :=
  match c with
  | .z => p.zf
  | .nz => !p.zf
  | .cs => p.cf
  | .cc => !p.cf
  | .le => p.cf || p.zf
  | .gt => !(p.cf || p.zf)
  | .t => p.jf
  | .f => !p.jf

/-- Condition of the 3-byte `JR cc,a` on PSW before the instruction (R295). -/
def condLongHolds (c : CondLong) (p : Psw) : Bool :=
  match c with
  | .m => p.sf
  | .p => !p.sf
  | .slt => p.sf ^^ p.vf
  | .sge => !(p.sf ^^ p.vf)
  | .sle => p.zf || (p.sf ^^ p.vf)
  | .sgt => !(p.zf || (p.sf ^^ p.vf))
  | .vs => p.vf
  | .vc => !p.vf

end Sys2Proof.Machine
end

