-- ==== Sys2Proof/Machine/Operands.lean ====
section
/-!
DEFINITION. Memory operands: what an addressing mode does to SP and the effective address it gives (spec
20_memory.md R58 to R67, R77).
-/

namespace Sys2Proof.Machine

/-- Operand bytes that follow the mode's first opcode before the second opcode (R58, R83). -/
def srcExtra : Src → Nat
  | .x _ => 1
  | .vw _ => 2
  | .de => 0
  | .hl => 0
  | .ix => 0
  | .iy => 0
  | .incSP => 0
  | .hlC => 0
  | .ixd _ => 1
  | .iyd _ => 1
  | .spd _ => 1
  | .hld _ => 1
  | .pcA => 0

/-- As `srcExtra`, for a destination mode. -/
def dstExtra : Dst → Nat
  | .x _ => 1
  | .vw _ => 2
  | .de => 0
  | .hl => 0
  | .ix => 0
  | .iy => 0
  | .spDec => 0
  | .hlC => 0
  | .ixd _ => 1
  | .iyd _ => 1
  | .spd _ => 1
  | .hld _ => 1

/-- What happens before the address is formed (R77.2): `(+SP)` increments SP by 1, whatever the operand
width (R63). -/
def srcBegin (m : Src) (s : State) : State :=
  match m with
  | .incSP => s.withSp (s.sp + 1)
  | _ => s

/-- `EA(src)` in the state `srcBegin` leaves (R58); `$` is the state's `pc` while an instruction executes. -/
def srcAddr (m : Src) (s : State) : Word :=
  match m with
  | .x x => zext16 x
  | .vw addr => addr
  | .de => readR16 s .de
  | .hl => readR16 s .hl
  | .ix => readR16 s .ix
  | .iy => readR16 s .iy
  | .incSP => s.sp
  | .hlC => readR16 s .hl + sext16 (readR8 s .c)
  | .ixd d => readR16 s .ix + sext16 d
  | .iyd d => readR16 s .iy + sext16 d
  | .spd d => s.sp + sext16 d
  | .hld d => readR16 s .hl + sext16 d
  | .pcA => s.pc + 2 + sext16 (readR8 s .a)

/-- `EA(dst)` (R58). -/
def dstAddr (m : Dst) (s : State) : Word :=
  match m with
  | .x x => zext16 x
  | .vw addr => addr
  | .de => readR16 s .de
  | .hl => readR16 s .hl
  | .ix => readR16 s .ix
  | .iy => readR16 s .iy
  | .spDec => s.sp
  | .hlC => readR16 s .hl + sext16 (readR8 s .c)
  | .ixd d => readR16 s .ix + sext16 d
  | .iyd d => readR16 s .iy + sext16 d
  | .spd d => s.sp + sext16 d
  | .hld d => readR16 s .hl + sext16 d

/-- What happens after the store (R77.7): `(SP-)` decrements SP by 1, whatever the operand width (R64). -/
def dstEnd (m : Dst) (s : State) : State :=
  match m with
  | .spDec => s.withSp (s.sp - 1)
  | _ => s

/-- The bit number of a `.A` operand (R71, R250): the low three bits of A. -/
def bitNoOfA (s : State) : Nat := (readR8 s .a).toNat % 8

end Sys2Proof.Machine
end

