-- ==== Sys2Proof/Machine/Arithmetic.lean ====
section
/-!
DEFINITION. Arithmetic and logic instructions (spec 41_arithmetic.md): the eight two-operand operations in
their operand forms, `INC`, `DEC`, `DAA`, `DAS`, `MUL`, `DIV`, `NEG CS`. First the operation of each operand
form, then one meaning for each row of the opcode table.
-/

namespace Sys2Proof.Machine

/-! The two-operand forms (R184 to R194) -/

/-- `r8[r] <- res` unless the operation is `CMP` (R184). -/
def aluStore8 (op : AluOp) (r : Reg8) (res : Byte) (s : State) : State :=
  if aluWrites op then writeR8 s r res else s

/-- `r16[r] <- res` unless the operation is `CMP` (R184). -/
def aluStore16 (op : AluOp) (r : Reg16) (res : Word) (s : State) : State :=
  if aluWrites op then writeR16 s r res else s

/-- `ALU_8` on a register and a byte, result to the register (R184 to R188). -/
def alu8 (op : AluOp) (r : Reg8) (y : Byte) (s : State) : State :=
  let o := aluOut op (readR8 s r) y s.psw.cf
  aluStore8 op r o.res (setAluFlags8 op o s)

/-- `ALU_16` on a register and a word, result to the register (R184, R192 to R194). -/
def alu16 (op : AluOp) (r : Reg16) (y : Word) (s : State) : State :=
  let o := aluOut op (readR16 s r) y s.psw.cf
  aluStore16 op r o.res (setAluFlags16 op o s)

/-- R185 `op A,n`. -/
def aluAN (op : AluOp) (n : Byte) (s : State) : State := (alu8 op .a n s).advance 2

/-- R186 `op g,n`. -/
def aluGN (op : AluOp) (g : Reg8) (n : Byte) (s : State) : State := (alu8 op g n s).advance 3

/-- R187 `op r,g`. -/
def aluRG (op : AluOp) (r g : Reg8) (s : State) : State := (alu8 op r (readR8 s g) s).advance 2

/-- R188 `op r,(src)`. -/
def aluRSrc (op : AluOp) (r : Reg8) (m : Src) (s : State) : State :=
  let s1 := srcBegin m s
  (alu8 op r (memRead8 s1 (srcAddr m s1)) s1).advance (2 + srcExtra m)

/-- R189 `op (src),n`: the memory byte is the first operand and, but for `CMP`, the destination. -/
def aluSrcN (op : AluOp) (m : Src) (n : Byte) (s : State) : State :=
  let s1 := srcBegin m s
  let a := srcAddr m s1
  let o := aluOut op (memRead8 s1 a) n s1.psw.cf
  let s2 := setAluFlags8 op o s1
  (if aluWrites op then memWrite8 s2 a o.res else s2).advance (3 + srcExtra m)

/-- R190 `CMP (x),n`, short form: flags only. -/
def cmpXN (x n : Byte) (s : State) : State :=
  (setAluFlags8 .cmp (aluOut .cmp (memRead8 s (zext16 x)) n s.psw.cf) s).advance 3

/-- R192 `op gg,mn`. -/
def aluGGMN (op : AluOp) (gg : Reg16) (mn : Word) (s : State) : State := (alu16 op gg mn s).advance 4

/-- R193 `op rr,gg`. -/
def aluRRGG (op : AluOp) (rr gg : Reg16) (s : State) : State := (alu16 op rr (readR16 s gg) s).advance 2

/-- R194 `op rr,(src)`. -/
def aluRRSrc (op : AluOp) (rr : Reg16) (m : Src) (s : State) : State :=
  let s1 := srcBegin m s
  (alu16 op rr (memRead16 s1 (srcAddr m s1)) s1).advance (2 + srcExtra m)

/-! Increment and decrement: JF is the carry or borrow of the step, CF is not written -/

/-- R200 `INC r`. -/
def incR (r : Reg8) (s : State) : State :=
  let res := readR8 s r + 1
  (setJZ (writeR8 s r res) (decide (res = 0)) (decide (res = 0))).advance 1

/-- R201 `INC rr`. -/
def incRR (rr : Reg16) (s : State) : State :=
  let res := readR16 s rr + 1
  (setJZ (writeR16 s rr res) (decide (res = 0)) (decide (res = 0))).advance 1

/-- R202 `INC (src)`. -/
def incSrc (m : Src) (s : State) : State :=
  let s1 := srcBegin m s
  let a := srcAddr m s1
  let res := memRead8 s1 a + 1
  (setJZ (memWrite8 s1 a res) (decide (res = 0)) (decide (res = 0))).advance (2 + srcExtra m)

/-- R203 `DEC r`. -/
def decR (r : Reg8) (s : State) : State :=
  let res := readR8 s r - 1
  (setJZ (writeR8 s r res) (decide (res = 0xFF)) (decide (res = 0))).advance 1

/-- R204 `DEC rr`. -/
def decRR (rr : Reg16) (s : State) : State :=
  let res := readR16 s rr - 1
  (setJZ (writeR16 s rr res) (decide (res = 0xFFFF)) (decide (res = 0))).advance 1

/-- R205 `DEC (src)`. -/
def decSrc (m : Src) (s : State) : State :=
  let s1 := srcBegin m s
  let a := srcAddr m s1
  let res := memRead8 s1 a - 1
  (setJZ (memWrite8 s1 a res) (decide (res = 0xFF)) (decide (res = 0))).advance (2 + srcExtra m)

/-! Decimal adjust -/

/-- The outcome of `DAA`/`DAS` on a combination that no row of the table covers (R207, R208, D17): the
register, CF, HF and ZF are free values (log entry 5), JF is CF. -/
def adjustUnlisted (g : Reg8) (s : State) : State :=
  let s1 := drawn s
  let s2 := drawn s1
  let s3 := drawn s2
  let s4 := drawn s3
  (writeR8 s4 g (freeByte s)).withPsw
    { s.psw with cf := freeBit s1, hf := freeBit s2, zf := freeBit s3, jf := freeBit s1 }

/-- R207 `DAA g`: HF is the carry out of bit 3 of the adjusting addition. -/
def daa (g : Reg8) (s : State) : State :=
  let v := readR8 s g
  (match adjustRow daaRows s.psw.cf s.psw.hf v with
    | some row =>
      let res := v + row.add
      (writeR8 s g res).withPsw
        { s.psw with hf := decide (16 ≤ v.toNat % 16 + row.add.toNat % 16), cf := row.cfAfter,
                     jf := row.cfAfter, zf := decide (res = 0) }
    | none => adjustUnlisted g s).advance 2

/-- R208 `DAS g`: on a row of the table HF is the free value `DAS_HF` (D17, log entry 5). -/
def das (g : Reg8) (s : State) : State :=
  let v := readR8 s g
  (match adjustRow dasRows s.psw.cf s.psw.hf v with
    | some row =>
      let res := v + row.add
      (writeR8 (drawn s) g res).withPsw
        { s.psw with hf := freeBit s, cf := row.cfAfter, jf := row.cfAfter, zf := decide (res = 0) }
    | none => adjustUnlisted g s).advance 2

/-! Multiply, divide, conditional negate -/

/-- R210 `MUL`: unsigned 8 x 8 to 16; ZF and JF from the upper byte of the product. -/
def mul (p : Pair) (s : State) : State :=
  let v := readR16 s (pairReg p)
  let prod := BitVec.ofNat 16 ((hiByte v).toNat * (loByte v).toNat)
  let z := decide (hiByte prod = 0)
  (setJZ (writeR16 s (pairReg p) prod) z z).advance 2

/-- R211 `DIV gg,C`: quotient to the low byte, remainder to the high byte, CF clear, ZF and JF from the
remainder. With divisor 0 or a quotient of `0x100` or more: CF is 1 and both bytes and ZF are free values
(D16, log entry 5), JF is ZF. -/
def div (p : DivPair) (s : State) : State :=
  let num := (readR16 s (divReg p)).toNat
  let dv := (readR8 s .c).toNat
  (if dv = 0 ∨ 0x100 ≤ num / dv then
    let s1 := drawn s
    let s2 := drawn s1
    let s3 := drawn s2
    setJZC (writeR16 s3 (divReg p) (wordOf (freeByte s1) (freeByte s))) (freeBit s2) (freeBit s2) true
  else
    let q := BitVec.ofNat 8 (num / dv)
    let rem := BitVec.ofNat 8 (num % dv)
    setJZC (writeR16 s (divReg p) (wordOf rem q)) (decide (rem = 0)) (decide (rem = 0)) false).advance 2

/-- R212 `NEG CS,gg`. -/
def negCS (gg : Reg16) (s : State) : State :=
  (setJ (if s.psw.cf then writeR16 s gg (0 - readR16 s gg) else s) true).advance 2

/-! One meaning for each row of the opcode table. -/

/-- `CMP (x),n`, `00000111 xxxxxxxx nnnnnnnn`: R190, R199. -/
def execCmpAtXN (x : Byte) (n : Byte) (s : State) : Result := .next (cmpXN x n s)

/-- `INC r`, `00100rrr`: R200. -/
def execIncR (r : Reg8) (s : State) : Result := .next (incR r s)

/-- `DEC r`, `00101rrr`: R203. -/
def execDecR (r : Reg8) (s : State) : Result := .next (decR r s)

/-- `INC rr`, `00110rrr`: R201. -/
def execIncRR (rr : Reg16) (s : State) : Result := .next (incRR rr s)

/-- `DEC rr`, `00111rrr`: R204. -/
def execDecRR (rr : Reg16) (s : State) : Result := .next (decRR rr s)

/-- `ADDC A,n`, `01100000 nnnnnnnn`: R196, R185. -/
def execAddcAN (n : Byte) (s : State) : Result := .next (aluAN .addc n s)

/-- `ADD A,n`, `01100001 nnnnnnnn`: R195, R185. -/
def execAddAN (n : Byte) (s : State) : Result := .next (aluAN .add n s)

/-- `SUBB A,n`, `01100010 nnnnnnnn`: R198, R185. -/
def execSubbAN (n : Byte) (s : State) : Result := .next (aluAN .subb n s)

/-- `SUB A,n`, `01100011 nnnnnnnn`: R197, R185. -/
def execSubAN (n : Byte) (s : State) : Result := .next (aluAN .sub n s)

/-- `AND A,n`, `01100100 nnnnnnnn`: R213, R185. -/
def execAndAN (n : Byte) (s : State) : Result := .next (aluAN .and n s)

/-- `XOR A,n`, `01100101 nnnnnnnn`: R215, R185. -/
def execXorAN (n : Byte) (s : State) : Result := .next (aluAN .xor n s)

/-- `OR A,n`, `01100110 nnnnnnnn`: R214, R185. -/
def execOrAN (n : Byte) (s : State) : Result := .next (aluAN .or n s)

/-- `CMP A,n`, `01100111 nnnnnnnn`: R199, R185. -/
def execCmpAN (n : Byte) (s : State) : Result := .next (aluAN .cmp n s)

/-- `ADDC r,g`, `11101ggg 00rrr000`: R196, R187. -/
def execAddcRG (r : Reg8) (g : Reg8) (s : State) : Result := .next (aluRG .addc r g s)

/-- `ADDC g,n`, `11101ggg 01100000 nnnnnnnn`: R196, R186. -/
def execAddcGN (g : Reg8) (n : Byte) (s : State) : Result := .next (aluGN .addc g n s)

/-- `ADDC gg,mn`, `11101ggg 01101000 nnnnnnnn mmmmmmmm`: R196, R192. -/
def execAddcGGMN (gg : Reg16) (mn : Word) (s : State) : Result := .next (aluGGMN .addc gg mn s)

/-- `ADDC rr,gg`, `11101ggg 10rrr000`: R196, R193. -/
def execAddcRRGG (rr : Reg16) (gg : Reg16) (s : State) : Result := .next (aluRRGG .addc rr gg s)

/-- `ADD r,g`, `11101ggg 00rrr001`: R195, R187. -/
def execAddRG (r : Reg8) (g : Reg8) (s : State) : Result := .next (aluRG .add r g s)

/-- `ADD g,n`, `11101ggg 01100001 nnnnnnnn`: R195, R186. -/
def execAddGN (g : Reg8) (n : Byte) (s : State) : Result := .next (aluGN .add g n s)

/-- `ADD gg,mn`, `11101ggg 01101001 nnnnnnnn mmmmmmmm`: R195, R192. -/
def execAddGGMN (gg : Reg16) (mn : Word) (s : State) : Result := .next (aluGGMN .add gg mn s)

/-- `ADD rr,gg`, `11101ggg 10rrr001`: R195, R193. -/
def execAddRRGG (rr : Reg16) (gg : Reg16) (s : State) : Result := .next (aluRRGG .add rr gg s)

/-- `SUBB r,g`, `11101ggg 00rrr010`: R198, R187. -/
def execSubbRG (r : Reg8) (g : Reg8) (s : State) : Result := .next (aluRG .subb r g s)

/-- `SUBB g,n`, `11101ggg 01100010 nnnnnnnn`: R198, R186. -/
def execSubbGN (g : Reg8) (n : Byte) (s : State) : Result := .next (aluGN .subb g n s)

/-- `SUBB gg,mn`, `11101ggg 01101010 nnnnnnnn mmmmmmmm`: R198, R192. -/
def execSubbGGMN (gg : Reg16) (mn : Word) (s : State) : Result := .next (aluGGMN .subb gg mn s)

/-- `SUBB rr,gg`, `11101ggg 10rrr010`: R198, R193. -/
def execSubbRRGG (rr : Reg16) (gg : Reg16) (s : State) : Result := .next (aluRRGG .subb rr gg s)

/-- `SUB r,g`, `11101ggg 00rrr011`: R197, R187. -/
def execSubRG (r : Reg8) (g : Reg8) (s : State) : Result := .next (aluRG .sub r g s)

/-- `SUB g,n`, `11101ggg 01100011 nnnnnnnn`: R197, R186. -/
def execSubGN (g : Reg8) (n : Byte) (s : State) : Result := .next (aluGN .sub g n s)

/-- `SUB gg,mn`, `11101ggg 01101011 nnnnnnnn mmmmmmmm`: R197, R192. -/
def execSubGGMN (gg : Reg16) (mn : Word) (s : State) : Result := .next (aluGGMN .sub gg mn s)

/-- `SUB rr,gg`, `11101ggg 10rrr011`: R197, R193. -/
def execSubRRGG (rr : Reg16) (gg : Reg16) (s : State) : Result := .next (aluRRGG .sub rr gg s)

/-- `AND r,g`, `11101ggg 00rrr100`: R213, R187. -/
def execAndRG (r : Reg8) (g : Reg8) (s : State) : Result := .next (aluRG .and r g s)

/-- `AND g,n`, `11101ggg 01100100 nnnnnnnn`: R213, R186. -/
def execAndGN (g : Reg8) (n : Byte) (s : State) : Result := .next (aluGN .and g n s)

/-- `AND gg,mn`, `11101ggg 01101100 nnnnnnnn mmmmmmmm`: R213, R192. -/
def execAndGGMN (gg : Reg16) (mn : Word) (s : State) : Result := .next (aluGGMN .and gg mn s)

/-- `AND rr,gg`, `11101ggg 10rrr100`: R213, R193. -/
def execAndRRGG (rr : Reg16) (gg : Reg16) (s : State) : Result := .next (aluRRGG .and rr gg s)

/-- `XOR r,g`, `11101ggg 00rrr101`: R215, R187. -/
def execXorRG (r : Reg8) (g : Reg8) (s : State) : Result := .next (aluRG .xor r g s)

/-- `XOR g,n`, `11101ggg 01100101 nnnnnnnn`: R215, R186. -/
def execXorGN (g : Reg8) (n : Byte) (s : State) : Result := .next (aluGN .xor g n s)

/-- `XOR gg,mn`, `11101ggg 01101101 nnnnnnnn mmmmmmmm`: R215, R192. -/
def execXorGGMN (gg : Reg16) (mn : Word) (s : State) : Result := .next (aluGGMN .xor gg mn s)

/-- `XOR rr,gg`, `11101ggg 10rrr101`: R215, R193. -/
def execXorRRGG (rr : Reg16) (gg : Reg16) (s : State) : Result := .next (aluRRGG .xor rr gg s)

/-- `OR r,g`, `11101ggg 00rrr110`: R214, R187. -/
def execOrRG (r : Reg8) (g : Reg8) (s : State) : Result := .next (aluRG .or r g s)

/-- `OR g,n`, `11101ggg 01100110 nnnnnnnn`: R214, R186. -/
def execOrGN (g : Reg8) (n : Byte) (s : State) : Result := .next (aluGN .or g n s)

/-- `OR gg,mn`, `11101ggg 01101110 nnnnnnnn mmmmmmmm`: R214, R192. -/
def execOrGGMN (gg : Reg16) (mn : Word) (s : State) : Result := .next (aluGGMN .or gg mn s)

/-- `OR rr,gg`, `11101ggg 10rrr110`: R214, R193. -/
def execOrRRGG (rr : Reg16) (gg : Reg16) (s : State) : Result := .next (aluRRGG .or rr gg s)

/-- `CMP r,g`, `11101ggg 00rrr111`: R199, R187. -/
def execCmpRG (r : Reg8) (g : Reg8) (s : State) : Result := .next (aluRG .cmp r g s)

/-- `CMP g,n`, `11101ggg 01100111 nnnnnnnn`: R199, R186. -/
def execCmpGN (g : Reg8) (n : Byte) (s : State) : Result := .next (aluGN .cmp g n s)

/-- `CMP gg,mn`, `11101ggg 01101111 nnnnnnnn mmmmmmmm`: R199, R192. -/
def execCmpGGMN (gg : Reg16) (mn : Word) (s : State) : Result := .next (aluGGMN .cmp gg mn s)

/-- `CMP rr,gg`, `11101ggg 10rrr111`: R199, R193. -/
def execCmpRRGG (rr : Reg16) (gg : Reg16) (s : State) : Result := .next (aluRRGG .cmp rr gg s)

/-- `DAA g`, `11101ggg 11011010`: R207. -/
def execDaaG (g : Reg8) (s : State) : Result := .next (daa g s)

/-- `DAS g`, `11101ggg 11011011`: R208. -/
def execDasG (g : Reg8) (s : State) : Result := .next (das g s)

/-- `MUL W,A`, `11101000 11110010`: R210. -/
def execMulWA (s : State) : Result := .next (mul .wa s)

/-- `MUL B,C`, `11101001 11110010`: R210. -/
def execMulBC (s : State) : Result := .next (mul .bc s)

/-- `MUL D,E`, `11101010 11110010`: R210. -/
def execMulDE (s : State) : Result := .next (mul .de s)

/-- `MUL H,L`, `11101011 11110010`: R210. -/
def execMulHL (s : State) : Result := .next (mul .hl s)

/-- `DIV WA,C`, `11101000 11110011`: R211. -/
def execDivWAC (s : State) : Result := .next (div .wa s)

/-- `DIV DE,C`, `11101010 11110011`: R211. -/
def execDivDEC (s : State) : Result := .next (div .de s)

/-- `DIV HL,C`, `11101011 11110011`: R211. -/
def execDivHLC (s : State) : Result := .next (div .hl s)

/-- `NEG CS,gg`, `11101ggg 11111010`: R212. -/
def execNegCSGG (gg : Reg16) (s : State) : Result := .next (negCS gg s)

/-- `ADDC r,(x)`, `11100000 xxxxxxxx 00rrr000`: R196, R188, R62. -/
def execAddcRAtX (r : Reg8) (x : Byte) (s : State) : Result := .next (aluRSrc .addc r (.x x) s)

/-- `ADDC r,(vw)`, `11100001 wwwwwwww vvvvvvvv 00rrr000`: R196, R188, R67. -/
def execAddcRAtVW (r : Reg8) (addr : Word) (s : State) : Result := .next (aluRSrc .addc r (.vw addr) s)

/-- `ADDC r,(DE)`, `11100010 00rrr000`: R196, R188, R59. -/
def execAddcRAtDE (r : Reg8) (s : State) : Result := .next (aluRSrc .addc r .de s)

/-- `ADDC r,(HL)`, `11100011 00rrr000`: R196, R188, R59. -/
def execAddcRAtHL (r : Reg8) (s : State) : Result := .next (aluRSrc .addc r .hl s)

/-- `ADDC r,(IX)`, `11100100 00rrr000`: R196, R188, R59. -/
def execAddcRAtIX (r : Reg8) (s : State) : Result := .next (aluRSrc .addc r .ix s)

/-- `ADDC r,(IY)`, `11100101 00rrr000`: R196, R188, R59. -/
def execAddcRAtIY (r : Reg8) (s : State) : Result := .next (aluRSrc .addc r .iy s)

/-- `ADDC r,(+SP)`, `11100110 00rrr000`: R196, R188, R63. -/
def execAddcRAtIncSP (r : Reg8) (s : State) : Result := .next (aluRSrc .addc r .incSP s)

/-- `ADDC r,(HL+C)`, `11100111 00rrr000`: R196, R188, R61. -/
def execAddcRAtHLC (r : Reg8) (s : State) : Result := .next (aluRSrc .addc r .hlC s)

/-- `ADDC r,(IX+d)`, `11010100 dddddddd 00rrr000`: R196, R188, R60. -/
def execAddcRAtIXd (r : Reg8) (d : Byte) (s : State) : Result := .next (aluRSrc .addc r (.ixd d) s)

/-- `ADDC r,(IY+d)`, `11010101 dddddddd 00rrr000`: R196, R188, R60. -/
def execAddcRAtIYd (r : Reg8) (d : Byte) (s : State) : Result := .next (aluRSrc .addc r (.iyd d) s)

/-- `ADDC r,(SP+d)`, `11010110 dddddddd 00rrr000`: R196, R188, R65. -/
def execAddcRAtSPd (r : Reg8) (d : Byte) (s : State) : Result := .next (aluRSrc .addc r (.spd d) s)

/-- `ADDC r,(HL+d)`, `11010111 dddddddd 00rrr000`: R196, R188, R60. -/
def execAddcRAtHLd (r : Reg8) (d : Byte) (s : State) : Result := .next (aluRSrc .addc r (.hld d) s)

/-- `ADDC r,(PC+A)`, `01001111 00rrr000`: R196, R188, R66. -/
def execAddcRAtPCA (r : Reg8) (s : State) : Result := .next (aluRSrc .addc r .pcA s)

/-- `ADDC (x),n`, `11100000 xxxxxxxx 01100000 nnnnnnnn`: R196, R189, R62. -/
def execAddcAtXN (x : Byte) (n : Byte) (s : State) : Result := .next (aluSrcN .addc (.x x) n s)

/-- `ADDC (vw),n`, `11100001 wwwwwwww vvvvvvvv 01100000 nnnnnnnn`: R196, R189, R67. -/
def execAddcAtVWN (addr : Word) (n : Byte) (s : State) : Result := .next (aluSrcN .addc (.vw addr) n s)

/-- `ADDC (DE),n`, `11100010 01100000 nnnnnnnn`: R196, R189, R59. -/
def execAddcAtDEN (n : Byte) (s : State) : Result := .next (aluSrcN .addc .de n s)

/-- `ADDC (HL),n`, `11100011 01100000 nnnnnnnn`: R196, R189, R59. -/
def execAddcAtHLN (n : Byte) (s : State) : Result := .next (aluSrcN .addc .hl n s)

/-- `ADDC (IX),n`, `11100100 01100000 nnnnnnnn`: R196, R189, R59. -/
def execAddcAtIXN (n : Byte) (s : State) : Result := .next (aluSrcN .addc .ix n s)

/-- `ADDC (IY),n`, `11100101 01100000 nnnnnnnn`: R196, R189, R59. -/
def execAddcAtIYN (n : Byte) (s : State) : Result := .next (aluSrcN .addc .iy n s)

/-- `ADDC (+SP),n`, `11100110 01100000 nnnnnnnn`: R196, R189, R63. -/
def execAddcAtIncSPN (n : Byte) (s : State) : Result := .next (aluSrcN .addc .incSP n s)

/-- `ADDC (HL+C),n`, `11100111 01100000 nnnnnnnn`: R196, R189, R61. -/
def execAddcAtHLCN (n : Byte) (s : State) : Result := .next (aluSrcN .addc .hlC n s)

/-- `ADDC (IX+d),n`, `11010100 dddddddd 01100000 nnnnnnnn`: R196, R189, R60. -/
def execAddcAtIXdN (d : Byte) (n : Byte) (s : State) : Result := .next (aluSrcN .addc (.ixd d) n s)

/-- `ADDC (IY+d),n`, `11010101 dddddddd 01100000 nnnnnnnn`: R196, R189, R60. -/
def execAddcAtIYdN (d : Byte) (n : Byte) (s : State) : Result := .next (aluSrcN .addc (.iyd d) n s)

/-- `ADDC (SP+d),n`, `11010110 dddddddd 01100000 nnnnnnnn`: R196, R189, R65. -/
def execAddcAtSPdN (d : Byte) (n : Byte) (s : State) : Result := .next (aluSrcN .addc (.spd d) n s)

/-- `ADDC (HL+d),n`, `11010111 dddddddd 01100000 nnnnnnnn`: R196, R189, R60. -/
def execAddcAtHLdN (d : Byte) (n : Byte) (s : State) : Result := .next (aluSrcN .addc (.hld d) n s)

/-- `ADDC (PC+A),n`, `01001111 01100000 nnnnnnnn`: R196, R189, R66. -/
def execAddcAtPCAN (n : Byte) (s : State) : Result := .next (aluSrcN .addc .pcA n s)

/-- `ADDC rr,(x)`, `11100000 xxxxxxxx 10rrr000`: R196, R194, R62. -/
def execAddcRRAtX (rr : Reg16) (x : Byte) (s : State) : Result := .next (aluRRSrc .addc rr (.x x) s)

/-- `ADDC rr,(vw)`, `11100001 wwwwwwww vvvvvvvv 10rrr000`: R196, R194, R67. -/
def execAddcRRAtVW (rr : Reg16) (addr : Word) (s : State) : Result := .next (aluRRSrc .addc rr (.vw addr) s)

/-- `ADDC rr,(DE)`, `11100010 10rrr000`: R196, R194, R59. -/
def execAddcRRAtDE (rr : Reg16) (s : State) : Result := .next (aluRRSrc .addc rr .de s)

/-- `ADDC rr,(HL)`, `11100011 10rrr000`: R196, R194, R59. -/
def execAddcRRAtHL (rr : Reg16) (s : State) : Result := .next (aluRRSrc .addc rr .hl s)

/-- `ADDC rr,(IX)`, `11100100 10rrr000`: R196, R194, R59. -/
def execAddcRRAtIX (rr : Reg16) (s : State) : Result := .next (aluRRSrc .addc rr .ix s)

/-- `ADDC rr,(IY)`, `11100101 10rrr000`: R196, R194, R59. -/
def execAddcRRAtIY (rr : Reg16) (s : State) : Result := .next (aluRRSrc .addc rr .iy s)

/-- `ADDC rr,(+SP)`, `11100110 10rrr000`: R196, R194, R63. -/
def execAddcRRAtIncSP (rr : Reg16) (s : State) : Result := .next (aluRRSrc .addc rr .incSP s)

/-- `ADDC rr,(HL+C)`, `11100111 10rrr000`: R196, R194, R61. -/
def execAddcRRAtHLC (rr : Reg16) (s : State) : Result := .next (aluRRSrc .addc rr .hlC s)

/-- `ADDC rr,(IX+d)`, `11010100 dddddddd 10rrr000`: R196, R194, R60. -/
def execAddcRRAtIXd (rr : Reg16) (d : Byte) (s : State) : Result := .next (aluRRSrc .addc rr (.ixd d) s)

/-- `ADDC rr,(IY+d)`, `11010101 dddddddd 10rrr000`: R196, R194, R60. -/
def execAddcRRAtIYd (rr : Reg16) (d : Byte) (s : State) : Result := .next (aluRRSrc .addc rr (.iyd d) s)

/-- `ADDC rr,(SP+d)`, `11010110 dddddddd 10rrr000`: R196, R194, R65. -/
def execAddcRRAtSPd (rr : Reg16) (d : Byte) (s : State) : Result := .next (aluRRSrc .addc rr (.spd d) s)

/-- `ADDC rr,(HL+d)`, `11010111 dddddddd 10rrr000`: R196, R194, R60. -/
def execAddcRRAtHLd (rr : Reg16) (d : Byte) (s : State) : Result := .next (aluRRSrc .addc rr (.hld d) s)

/-- `ADDC rr,(PC+A)`, `01001111 10rrr000`: R196, R194, R66. -/
def execAddcRRAtPCA (rr : Reg16) (s : State) : Result := .next (aluRRSrc .addc rr .pcA s)

/-- `ADD r,(x)`, `11100000 xxxxxxxx 00rrr001`: R195, R188, R62. -/
def execAddRAtX (r : Reg8) (x : Byte) (s : State) : Result := .next (aluRSrc .add r (.x x) s)

/-- `ADD r,(vw)`, `11100001 wwwwwwww vvvvvvvv 00rrr001`: R195, R188, R67. -/
def execAddRAtVW (r : Reg8) (addr : Word) (s : State) : Result := .next (aluRSrc .add r (.vw addr) s)

/-- `ADD r,(DE)`, `11100010 00rrr001`: R195, R188, R59. -/
def execAddRAtDE (r : Reg8) (s : State) : Result := .next (aluRSrc .add r .de s)

/-- `ADD r,(HL)`, `11100011 00rrr001`: R195, R188, R59. -/
def execAddRAtHL (r : Reg8) (s : State) : Result := .next (aluRSrc .add r .hl s)

/-- `ADD r,(IX)`, `11100100 00rrr001`: R195, R188, R59. -/
def execAddRAtIX (r : Reg8) (s : State) : Result := .next (aluRSrc .add r .ix s)

/-- `ADD r,(IY)`, `11100101 00rrr001`: R195, R188, R59. -/
def execAddRAtIY (r : Reg8) (s : State) : Result := .next (aluRSrc .add r .iy s)

/-- `ADD r,(+SP)`, `11100110 00rrr001`: R195, R188, R63. -/
def execAddRAtIncSP (r : Reg8) (s : State) : Result := .next (aluRSrc .add r .incSP s)

/-- `ADD r,(HL+C)`, `11100111 00rrr001`: R195, R188, R61. -/
def execAddRAtHLC (r : Reg8) (s : State) : Result := .next (aluRSrc .add r .hlC s)

/-- `ADD r,(IX+d)`, `11010100 dddddddd 00rrr001`: R195, R188, R60. -/
def execAddRAtIXd (r : Reg8) (d : Byte) (s : State) : Result := .next (aluRSrc .add r (.ixd d) s)

/-- `ADD r,(IY+d)`, `11010101 dddddddd 00rrr001`: R195, R188, R60. -/
def execAddRAtIYd (r : Reg8) (d : Byte) (s : State) : Result := .next (aluRSrc .add r (.iyd d) s)

/-- `ADD r,(SP+d)`, `11010110 dddddddd 00rrr001`: R195, R188, R65. -/
def execAddRAtSPd (r : Reg8) (d : Byte) (s : State) : Result := .next (aluRSrc .add r (.spd d) s)

/-- `ADD r,(HL+d)`, `11010111 dddddddd 00rrr001`: R195, R188, R60. -/
def execAddRAtHLd (r : Reg8) (d : Byte) (s : State) : Result := .next (aluRSrc .add r (.hld d) s)

/-- `ADD r,(PC+A)`, `01001111 00rrr001`: R195, R188, R66. -/
def execAddRAtPCA (r : Reg8) (s : State) : Result := .next (aluRSrc .add r .pcA s)

/-- `ADD (x),n`, `11100000 xxxxxxxx 01100001 nnnnnnnn`: R195, R189, R62. -/
def execAddAtXN (x : Byte) (n : Byte) (s : State) : Result := .next (aluSrcN .add (.x x) n s)

/-- `ADD (vw),n`, `11100001 wwwwwwww vvvvvvvv 01100001 nnnnnnnn`: R195, R189, R67. -/
def execAddAtVWN (addr : Word) (n : Byte) (s : State) : Result := .next (aluSrcN .add (.vw addr) n s)

/-- `ADD (DE),n`, `11100010 01100001 nnnnnnnn`: R195, R189, R59. -/
def execAddAtDEN (n : Byte) (s : State) : Result := .next (aluSrcN .add .de n s)

/-- `ADD (HL),n`, `11100011 01100001 nnnnnnnn`: R195, R189, R59. -/
def execAddAtHLN (n : Byte) (s : State) : Result := .next (aluSrcN .add .hl n s)

/-- `ADD (IX),n`, `11100100 01100001 nnnnnnnn`: R195, R189, R59. -/
def execAddAtIXN (n : Byte) (s : State) : Result := .next (aluSrcN .add .ix n s)

/-- `ADD (IY),n`, `11100101 01100001 nnnnnnnn`: R195, R189, R59. -/
def execAddAtIYN (n : Byte) (s : State) : Result := .next (aluSrcN .add .iy n s)

/-- `ADD (+SP),n`, `11100110 01100001 nnnnnnnn`: R195, R189, R63. -/
def execAddAtIncSPN (n : Byte) (s : State) : Result := .next (aluSrcN .add .incSP n s)

/-- `ADD (HL+C),n`, `11100111 01100001 nnnnnnnn`: R195, R189, R61. -/
def execAddAtHLCN (n : Byte) (s : State) : Result := .next (aluSrcN .add .hlC n s)

/-- `ADD (IX+d),n`, `11010100 dddddddd 01100001 nnnnnnnn`: R195, R189, R60. -/
def execAddAtIXdN (d : Byte) (n : Byte) (s : State) : Result := .next (aluSrcN .add (.ixd d) n s)

/-- `ADD (IY+d),n`, `11010101 dddddddd 01100001 nnnnnnnn`: R195, R189, R60. -/
def execAddAtIYdN (d : Byte) (n : Byte) (s : State) : Result := .next (aluSrcN .add (.iyd d) n s)

/-- `ADD (SP+d),n`, `11010110 dddddddd 01100001 nnnnnnnn`: R195, R189, R65. -/
def execAddAtSPdN (d : Byte) (n : Byte) (s : State) : Result := .next (aluSrcN .add (.spd d) n s)

/-- `ADD (HL+d),n`, `11010111 dddddddd 01100001 nnnnnnnn`: R195, R189, R60. -/
def execAddAtHLdN (d : Byte) (n : Byte) (s : State) : Result := .next (aluSrcN .add (.hld d) n s)

/-- `ADD (PC+A),n`, `01001111 01100001 nnnnnnnn`: R195, R189, R66. -/
def execAddAtPCAN (n : Byte) (s : State) : Result := .next (aluSrcN .add .pcA n s)

/-- `ADD rr,(x)`, `11100000 xxxxxxxx 10rrr001`: R195, R194, R62. -/
def execAddRRAtX (rr : Reg16) (x : Byte) (s : State) : Result := .next (aluRRSrc .add rr (.x x) s)

/-- `ADD rr,(vw)`, `11100001 wwwwwwww vvvvvvvv 10rrr001`: R195, R194, R67. -/
def execAddRRAtVW (rr : Reg16) (addr : Word) (s : State) : Result := .next (aluRRSrc .add rr (.vw addr) s)

/-- `ADD rr,(DE)`, `11100010 10rrr001`: R195, R194, R59. -/
def execAddRRAtDE (rr : Reg16) (s : State) : Result := .next (aluRRSrc .add rr .de s)

/-- `ADD rr,(HL)`, `11100011 10rrr001`: R195, R194, R59. -/
def execAddRRAtHL (rr : Reg16) (s : State) : Result := .next (aluRRSrc .add rr .hl s)

/-- `ADD rr,(IX)`, `11100100 10rrr001`: R195, R194, R59. -/
def execAddRRAtIX (rr : Reg16) (s : State) : Result := .next (aluRRSrc .add rr .ix s)

/-- `ADD rr,(IY)`, `11100101 10rrr001`: R195, R194, R59. -/
def execAddRRAtIY (rr : Reg16) (s : State) : Result := .next (aluRRSrc .add rr .iy s)

/-- `ADD rr,(+SP)`, `11100110 10rrr001`: R195, R194, R63. -/
def execAddRRAtIncSP (rr : Reg16) (s : State) : Result := .next (aluRRSrc .add rr .incSP s)

/-- `ADD rr,(HL+C)`, `11100111 10rrr001`: R195, R194, R61. -/
def execAddRRAtHLC (rr : Reg16) (s : State) : Result := .next (aluRRSrc .add rr .hlC s)

/-- `ADD rr,(IX+d)`, `11010100 dddddddd 10rrr001`: R195, R194, R60. -/
def execAddRRAtIXd (rr : Reg16) (d : Byte) (s : State) : Result := .next (aluRRSrc .add rr (.ixd d) s)

/-- `ADD rr,(IY+d)`, `11010101 dddddddd 10rrr001`: R195, R194, R60. -/
def execAddRRAtIYd (rr : Reg16) (d : Byte) (s : State) : Result := .next (aluRRSrc .add rr (.iyd d) s)

/-- `ADD rr,(SP+d)`, `11010110 dddddddd 10rrr001`: R195, R194, R65. -/
def execAddRRAtSPd (rr : Reg16) (d : Byte) (s : State) : Result := .next (aluRRSrc .add rr (.spd d) s)

/-- `ADD rr,(HL+d)`, `11010111 dddddddd 10rrr001`: R195, R194, R60. -/
def execAddRRAtHLd (rr : Reg16) (d : Byte) (s : State) : Result := .next (aluRRSrc .add rr (.hld d) s)

/-- `ADD rr,(PC+A)`, `01001111 10rrr001`: R195, R194, R66. -/
def execAddRRAtPCA (rr : Reg16) (s : State) : Result := .next (aluRRSrc .add rr .pcA s)

/-- `SUBB r,(x)`, `11100000 xxxxxxxx 00rrr010`: R198, R188, R62. -/
def execSubbRAtX (r : Reg8) (x : Byte) (s : State) : Result := .next (aluRSrc .subb r (.x x) s)

/-- `SUBB r,(vw)`, `11100001 wwwwwwww vvvvvvvv 00rrr010`: R198, R188, R67. -/
def execSubbRAtVW (r : Reg8) (addr : Word) (s : State) : Result := .next (aluRSrc .subb r (.vw addr) s)

/-- `SUBB r,(DE)`, `11100010 00rrr010`: R198, R188, R59. -/
def execSubbRAtDE (r : Reg8) (s : State) : Result := .next (aluRSrc .subb r .de s)

/-- `SUBB r,(HL)`, `11100011 00rrr010`: R198, R188, R59. -/
def execSubbRAtHL (r : Reg8) (s : State) : Result := .next (aluRSrc .subb r .hl s)

/-- `SUBB r,(IX)`, `11100100 00rrr010`: R198, R188, R59. -/
def execSubbRAtIX (r : Reg8) (s : State) : Result := .next (aluRSrc .subb r .ix s)

/-- `SUBB r,(IY)`, `11100101 00rrr010`: R198, R188, R59. -/
def execSubbRAtIY (r : Reg8) (s : State) : Result := .next (aluRSrc .subb r .iy s)

/-- `SUBB r,(+SP)`, `11100110 00rrr010`: R198, R188, R63. -/
def execSubbRAtIncSP (r : Reg8) (s : State) : Result := .next (aluRSrc .subb r .incSP s)

/-- `SUBB r,(HL+C)`, `11100111 00rrr010`: R198, R188, R61. -/
def execSubbRAtHLC (r : Reg8) (s : State) : Result := .next (aluRSrc .subb r .hlC s)

/-- `SUBB r,(IX+d)`, `11010100 dddddddd 00rrr010`: R198, R188, R60. -/
def execSubbRAtIXd (r : Reg8) (d : Byte) (s : State) : Result := .next (aluRSrc .subb r (.ixd d) s)

/-- `SUBB r,(IY+d)`, `11010101 dddddddd 00rrr010`: R198, R188, R60. -/
def execSubbRAtIYd (r : Reg8) (d : Byte) (s : State) : Result := .next (aluRSrc .subb r (.iyd d) s)

/-- `SUBB r,(SP+d)`, `11010110 dddddddd 00rrr010`: R198, R188, R65. -/
def execSubbRAtSPd (r : Reg8) (d : Byte) (s : State) : Result := .next (aluRSrc .subb r (.spd d) s)

/-- `SUBB r,(HL+d)`, `11010111 dddddddd 00rrr010`: R198, R188, R60. -/
def execSubbRAtHLd (r : Reg8) (d : Byte) (s : State) : Result := .next (aluRSrc .subb r (.hld d) s)

/-- `SUBB r,(PC+A)`, `01001111 00rrr010`: R198, R188, R66. -/
def execSubbRAtPCA (r : Reg8) (s : State) : Result := .next (aluRSrc .subb r .pcA s)

/-- `SUBB (x),n`, `11100000 xxxxxxxx 01100010 nnnnnnnn`: R198, R189, R62. -/
def execSubbAtXN (x : Byte) (n : Byte) (s : State) : Result := .next (aluSrcN .subb (.x x) n s)

/-- `SUBB (vw),n`, `11100001 wwwwwwww vvvvvvvv 01100010 nnnnnnnn`: R198, R189, R67. -/
def execSubbAtVWN (addr : Word) (n : Byte) (s : State) : Result := .next (aluSrcN .subb (.vw addr) n s)

/-- `SUBB (DE),n`, `11100010 01100010 nnnnnnnn`: R198, R189, R59. -/
def execSubbAtDEN (n : Byte) (s : State) : Result := .next (aluSrcN .subb .de n s)

/-- `SUBB (HL),n`, `11100011 01100010 nnnnnnnn`: R198, R189, R59. -/
def execSubbAtHLN (n : Byte) (s : State) : Result := .next (aluSrcN .subb .hl n s)

/-- `SUBB (IX),n`, `11100100 01100010 nnnnnnnn`: R198, R189, R59. -/
def execSubbAtIXN (n : Byte) (s : State) : Result := .next (aluSrcN .subb .ix n s)

/-- `SUBB (IY),n`, `11100101 01100010 nnnnnnnn`: R198, R189, R59. -/
def execSubbAtIYN (n : Byte) (s : State) : Result := .next (aluSrcN .subb .iy n s)

/-- `SUBB (+SP),n`, `11100110 01100010 nnnnnnnn`: R198, R189, R63. -/
def execSubbAtIncSPN (n : Byte) (s : State) : Result := .next (aluSrcN .subb .incSP n s)

/-- `SUBB (HL+C),n`, `11100111 01100010 nnnnnnnn`: R198, R189, R61. -/
def execSubbAtHLCN (n : Byte) (s : State) : Result := .next (aluSrcN .subb .hlC n s)

/-- `SUBB (IX+d),n`, `11010100 dddddddd 01100010 nnnnnnnn`: R198, R189, R60. -/
def execSubbAtIXdN (d : Byte) (n : Byte) (s : State) : Result := .next (aluSrcN .subb (.ixd d) n s)

/-- `SUBB (IY+d),n`, `11010101 dddddddd 01100010 nnnnnnnn`: R198, R189, R60. -/
def execSubbAtIYdN (d : Byte) (n : Byte) (s : State) : Result := .next (aluSrcN .subb (.iyd d) n s)

/-- `SUBB (SP+d),n`, `11010110 dddddddd 01100010 nnnnnnnn`: R198, R189, R65. -/
def execSubbAtSPdN (d : Byte) (n : Byte) (s : State) : Result := .next (aluSrcN .subb (.spd d) n s)

/-- `SUBB (HL+d),n`, `11010111 dddddddd 01100010 nnnnnnnn`: R198, R189, R60. -/
def execSubbAtHLdN (d : Byte) (n : Byte) (s : State) : Result := .next (aluSrcN .subb (.hld d) n s)

/-- `SUBB (PC+A),n`, `01001111 01100010 nnnnnnnn`: R198, R189, R66. -/
def execSubbAtPCAN (n : Byte) (s : State) : Result := .next (aluSrcN .subb .pcA n s)

/-- `SUBB rr,(x)`, `11100000 xxxxxxxx 10rrr010`: R198, R194, R62. -/
def execSubbRRAtX (rr : Reg16) (x : Byte) (s : State) : Result := .next (aluRRSrc .subb rr (.x x) s)

/-- `SUBB rr,(vw)`, `11100001 wwwwwwww vvvvvvvv 10rrr010`: R198, R194, R67. -/
def execSubbRRAtVW (rr : Reg16) (addr : Word) (s : State) : Result := .next (aluRRSrc .subb rr (.vw addr) s)

/-- `SUBB rr,(DE)`, `11100010 10rrr010`: R198, R194, R59. -/
def execSubbRRAtDE (rr : Reg16) (s : State) : Result := .next (aluRRSrc .subb rr .de s)

/-- `SUBB rr,(HL)`, `11100011 10rrr010`: R198, R194, R59. -/
def execSubbRRAtHL (rr : Reg16) (s : State) : Result := .next (aluRRSrc .subb rr .hl s)

/-- `SUBB rr,(IX)`, `11100100 10rrr010`: R198, R194, R59. -/
def execSubbRRAtIX (rr : Reg16) (s : State) : Result := .next (aluRRSrc .subb rr .ix s)

/-- `SUBB rr,(IY)`, `11100101 10rrr010`: R198, R194, R59. -/
def execSubbRRAtIY (rr : Reg16) (s : State) : Result := .next (aluRRSrc .subb rr .iy s)

/-- `SUBB rr,(+SP)`, `11100110 10rrr010`: R198, R194, R63. -/
def execSubbRRAtIncSP (rr : Reg16) (s : State) : Result := .next (aluRRSrc .subb rr .incSP s)

/-- `SUBB rr,(HL+C)`, `11100111 10rrr010`: R198, R194, R61. -/
def execSubbRRAtHLC (rr : Reg16) (s : State) : Result := .next (aluRRSrc .subb rr .hlC s)

/-- `SUBB rr,(IX+d)`, `11010100 dddddddd 10rrr010`: R198, R194, R60. -/
def execSubbRRAtIXd (rr : Reg16) (d : Byte) (s : State) : Result := .next (aluRRSrc .subb rr (.ixd d) s)

/-- `SUBB rr,(IY+d)`, `11010101 dddddddd 10rrr010`: R198, R194, R60. -/
def execSubbRRAtIYd (rr : Reg16) (d : Byte) (s : State) : Result := .next (aluRRSrc .subb rr (.iyd d) s)

/-- `SUBB rr,(SP+d)`, `11010110 dddddddd 10rrr010`: R198, R194, R65. -/
def execSubbRRAtSPd (rr : Reg16) (d : Byte) (s : State) : Result := .next (aluRRSrc .subb rr (.spd d) s)

/-- `SUBB rr,(HL+d)`, `11010111 dddddddd 10rrr010`: R198, R194, R60. -/
def execSubbRRAtHLd (rr : Reg16) (d : Byte) (s : State) : Result := .next (aluRRSrc .subb rr (.hld d) s)

/-- `SUBB rr,(PC+A)`, `01001111 10rrr010`: R198, R194, R66. -/
def execSubbRRAtPCA (rr : Reg16) (s : State) : Result := .next (aluRRSrc .subb rr .pcA s)

/-- `SUB r,(x)`, `11100000 xxxxxxxx 00rrr011`: R197, R188, R62. -/
def execSubRAtX (r : Reg8) (x : Byte) (s : State) : Result := .next (aluRSrc .sub r (.x x) s)

/-- `SUB r,(vw)`, `11100001 wwwwwwww vvvvvvvv 00rrr011`: R197, R188, R67. -/
def execSubRAtVW (r : Reg8) (addr : Word) (s : State) : Result := .next (aluRSrc .sub r (.vw addr) s)

/-- `SUB r,(DE)`, `11100010 00rrr011`: R197, R188, R59. -/
def execSubRAtDE (r : Reg8) (s : State) : Result := .next (aluRSrc .sub r .de s)

/-- `SUB r,(HL)`, `11100011 00rrr011`: R197, R188, R59. -/
def execSubRAtHL (r : Reg8) (s : State) : Result := .next (aluRSrc .sub r .hl s)

/-- `SUB r,(IX)`, `11100100 00rrr011`: R197, R188, R59. -/
def execSubRAtIX (r : Reg8) (s : State) : Result := .next (aluRSrc .sub r .ix s)

/-- `SUB r,(IY)`, `11100101 00rrr011`: R197, R188, R59. -/
def execSubRAtIY (r : Reg8) (s : State) : Result := .next (aluRSrc .sub r .iy s)

/-- `SUB r,(+SP)`, `11100110 00rrr011`: R197, R188, R63. -/
def execSubRAtIncSP (r : Reg8) (s : State) : Result := .next (aluRSrc .sub r .incSP s)

/-- `SUB r,(HL+C)`, `11100111 00rrr011`: R197, R188, R61. -/
def execSubRAtHLC (r : Reg8) (s : State) : Result := .next (aluRSrc .sub r .hlC s)

/-- `SUB r,(IX+d)`, `11010100 dddddddd 00rrr011`: R197, R188, R60. -/
def execSubRAtIXd (r : Reg8) (d : Byte) (s : State) : Result := .next (aluRSrc .sub r (.ixd d) s)

/-- `SUB r,(IY+d)`, `11010101 dddddddd 00rrr011`: R197, R188, R60. -/
def execSubRAtIYd (r : Reg8) (d : Byte) (s : State) : Result := .next (aluRSrc .sub r (.iyd d) s)

/-- `SUB r,(SP+d)`, `11010110 dddddddd 00rrr011`: R197, R188, R65. -/
def execSubRAtSPd (r : Reg8) (d : Byte) (s : State) : Result := .next (aluRSrc .sub r (.spd d) s)

/-- `SUB r,(HL+d)`, `11010111 dddddddd 00rrr011`: R197, R188, R60. -/
def execSubRAtHLd (r : Reg8) (d : Byte) (s : State) : Result := .next (aluRSrc .sub r (.hld d) s)

/-- `SUB r,(PC+A)`, `01001111 00rrr011`: R197, R188, R66. -/
def execSubRAtPCA (r : Reg8) (s : State) : Result := .next (aluRSrc .sub r .pcA s)

/-- `SUB (x),n`, `11100000 xxxxxxxx 01100011 nnnnnnnn`: R197, R189, R62. -/
def execSubAtXN (x : Byte) (n : Byte) (s : State) : Result := .next (aluSrcN .sub (.x x) n s)

/-- `SUB (vw),n`, `11100001 wwwwwwww vvvvvvvv 01100011 nnnnnnnn`: R197, R189, R67. -/
def execSubAtVWN (addr : Word) (n : Byte) (s : State) : Result := .next (aluSrcN .sub (.vw addr) n s)

/-- `SUB (DE),n`, `11100010 01100011 nnnnnnnn`: R197, R189, R59. -/
def execSubAtDEN (n : Byte) (s : State) : Result := .next (aluSrcN .sub .de n s)

/-- `SUB (HL),n`, `11100011 01100011 nnnnnnnn`: R197, R189, R59. -/
def execSubAtHLN (n : Byte) (s : State) : Result := .next (aluSrcN .sub .hl n s)

/-- `SUB (IX),n`, `11100100 01100011 nnnnnnnn`: R197, R189, R59. -/
def execSubAtIXN (n : Byte) (s : State) : Result := .next (aluSrcN .sub .ix n s)

/-- `SUB (IY),n`, `11100101 01100011 nnnnnnnn`: R197, R189, R59. -/
def execSubAtIYN (n : Byte) (s : State) : Result := .next (aluSrcN .sub .iy n s)

/-- `SUB (+SP),n`, `11100110 01100011 nnnnnnnn`: R197, R189, R63. -/
def execSubAtIncSPN (n : Byte) (s : State) : Result := .next (aluSrcN .sub .incSP n s)

/-- `SUB (HL+C),n`, `11100111 01100011 nnnnnnnn`: R197, R189, R61. -/
def execSubAtHLCN (n : Byte) (s : State) : Result := .next (aluSrcN .sub .hlC n s)

/-- `SUB (IX+d),n`, `11010100 dddddddd 01100011 nnnnnnnn`: R197, R189, R60. -/
def execSubAtIXdN (d : Byte) (n : Byte) (s : State) : Result := .next (aluSrcN .sub (.ixd d) n s)

/-- `SUB (IY+d),n`, `11010101 dddddddd 01100011 nnnnnnnn`: R197, R189, R60. -/
def execSubAtIYdN (d : Byte) (n : Byte) (s : State) : Result := .next (aluSrcN .sub (.iyd d) n s)

/-- `SUB (SP+d),n`, `11010110 dddddddd 01100011 nnnnnnnn`: R197, R189, R65. -/
def execSubAtSPdN (d : Byte) (n : Byte) (s : State) : Result := .next (aluSrcN .sub (.spd d) n s)

/-- `SUB (HL+d),n`, `11010111 dddddddd 01100011 nnnnnnnn`: R197, R189, R60. -/
def execSubAtHLdN (d : Byte) (n : Byte) (s : State) : Result := .next (aluSrcN .sub (.hld d) n s)

/-- `SUB (PC+A),n`, `01001111 01100011 nnnnnnnn`: R197, R189, R66. -/
def execSubAtPCAN (n : Byte) (s : State) : Result := .next (aluSrcN .sub .pcA n s)

/-- `SUB rr,(x)`, `11100000 xxxxxxxx 10rrr011`: R197, R194, R62. -/
def execSubRRAtX (rr : Reg16) (x : Byte) (s : State) : Result := .next (aluRRSrc .sub rr (.x x) s)

/-- `SUB rr,(vw)`, `11100001 wwwwwwww vvvvvvvv 10rrr011`: R197, R194, R67. -/
def execSubRRAtVW (rr : Reg16) (addr : Word) (s : State) : Result := .next (aluRRSrc .sub rr (.vw addr) s)

/-- `SUB rr,(DE)`, `11100010 10rrr011`: R197, R194, R59. -/
def execSubRRAtDE (rr : Reg16) (s : State) : Result := .next (aluRRSrc .sub rr .de s)

/-- `SUB rr,(HL)`, `11100011 10rrr011`: R197, R194, R59. -/
def execSubRRAtHL (rr : Reg16) (s : State) : Result := .next (aluRRSrc .sub rr .hl s)

/-- `SUB rr,(IX)`, `11100100 10rrr011`: R197, R194, R59. -/
def execSubRRAtIX (rr : Reg16) (s : State) : Result := .next (aluRRSrc .sub rr .ix s)

/-- `SUB rr,(IY)`, `11100101 10rrr011`: R197, R194, R59. -/
def execSubRRAtIY (rr : Reg16) (s : State) : Result := .next (aluRRSrc .sub rr .iy s)

/-- `SUB rr,(+SP)`, `11100110 10rrr011`: R197, R194, R63. -/
def execSubRRAtIncSP (rr : Reg16) (s : State) : Result := .next (aluRRSrc .sub rr .incSP s)

/-- `SUB rr,(HL+C)`, `11100111 10rrr011`: R197, R194, R61. -/
def execSubRRAtHLC (rr : Reg16) (s : State) : Result := .next (aluRRSrc .sub rr .hlC s)

/-- `SUB rr,(IX+d)`, `11010100 dddddddd 10rrr011`: R197, R194, R60. -/
def execSubRRAtIXd (rr : Reg16) (d : Byte) (s : State) : Result := .next (aluRRSrc .sub rr (.ixd d) s)

/-- `SUB rr,(IY+d)`, `11010101 dddddddd 10rrr011`: R197, R194, R60. -/
def execSubRRAtIYd (rr : Reg16) (d : Byte) (s : State) : Result := .next (aluRRSrc .sub rr (.iyd d) s)

/-- `SUB rr,(SP+d)`, `11010110 dddddddd 10rrr011`: R197, R194, R65. -/
def execSubRRAtSPd (rr : Reg16) (d : Byte) (s : State) : Result := .next (aluRRSrc .sub rr (.spd d) s)

/-- `SUB rr,(HL+d)`, `11010111 dddddddd 10rrr011`: R197, R194, R60. -/
def execSubRRAtHLd (rr : Reg16) (d : Byte) (s : State) : Result := .next (aluRRSrc .sub rr (.hld d) s)

/-- `SUB rr,(PC+A)`, `01001111 10rrr011`: R197, R194, R66. -/
def execSubRRAtPCA (rr : Reg16) (s : State) : Result := .next (aluRRSrc .sub rr .pcA s)

/-- `AND r,(x)`, `11100000 xxxxxxxx 00rrr100`: R213, R188, R62. -/
def execAndRAtX (r : Reg8) (x : Byte) (s : State) : Result := .next (aluRSrc .and r (.x x) s)

/-- `AND r,(vw)`, `11100001 wwwwwwww vvvvvvvv 00rrr100`: R213, R188, R67. -/
def execAndRAtVW (r : Reg8) (addr : Word) (s : State) : Result := .next (aluRSrc .and r (.vw addr) s)

/-- `AND r,(DE)`, `11100010 00rrr100`: R213, R188, R59. -/
def execAndRAtDE (r : Reg8) (s : State) : Result := .next (aluRSrc .and r .de s)

/-- `AND r,(HL)`, `11100011 00rrr100`: R213, R188, R59. -/
def execAndRAtHL (r : Reg8) (s : State) : Result := .next (aluRSrc .and r .hl s)

/-- `AND r,(IX)`, `11100100 00rrr100`: R213, R188, R59. -/
def execAndRAtIX (r : Reg8) (s : State) : Result := .next (aluRSrc .and r .ix s)

/-- `AND r,(IY)`, `11100101 00rrr100`: R213, R188, R59. -/
def execAndRAtIY (r : Reg8) (s : State) : Result := .next (aluRSrc .and r .iy s)

/-- `AND r,(+SP)`, `11100110 00rrr100`: R213, R188, R63. -/
def execAndRAtIncSP (r : Reg8) (s : State) : Result := .next (aluRSrc .and r .incSP s)

/-- `AND r,(HL+C)`, `11100111 00rrr100`: R213, R188, R61. -/
def execAndRAtHLC (r : Reg8) (s : State) : Result := .next (aluRSrc .and r .hlC s)

/-- `AND r,(IX+d)`, `11010100 dddddddd 00rrr100`: R213, R188, R60. -/
def execAndRAtIXd (r : Reg8) (d : Byte) (s : State) : Result := .next (aluRSrc .and r (.ixd d) s)

/-- `AND r,(IY+d)`, `11010101 dddddddd 00rrr100`: R213, R188, R60. -/
def execAndRAtIYd (r : Reg8) (d : Byte) (s : State) : Result := .next (aluRSrc .and r (.iyd d) s)

/-- `AND r,(SP+d)`, `11010110 dddddddd 00rrr100`: R213, R188, R65. -/
def execAndRAtSPd (r : Reg8) (d : Byte) (s : State) : Result := .next (aluRSrc .and r (.spd d) s)

/-- `AND r,(HL+d)`, `11010111 dddddddd 00rrr100`: R213, R188, R60. -/
def execAndRAtHLd (r : Reg8) (d : Byte) (s : State) : Result := .next (aluRSrc .and r (.hld d) s)

/-- `AND r,(PC+A)`, `01001111 00rrr100`: R213, R188, R66. -/
def execAndRAtPCA (r : Reg8) (s : State) : Result := .next (aluRSrc .and r .pcA s)

/-- `AND (x),n`, `11100000 xxxxxxxx 01100100 nnnnnnnn`: R213, R189, R62. -/
def execAndAtXN (x : Byte) (n : Byte) (s : State) : Result := .next (aluSrcN .and (.x x) n s)

/-- `AND (vw),n`, `11100001 wwwwwwww vvvvvvvv 01100100 nnnnnnnn`: R213, R189, R67. -/
def execAndAtVWN (addr : Word) (n : Byte) (s : State) : Result := .next (aluSrcN .and (.vw addr) n s)

/-- `AND (DE),n`, `11100010 01100100 nnnnnnnn`: R213, R189, R59. -/
def execAndAtDEN (n : Byte) (s : State) : Result := .next (aluSrcN .and .de n s)

/-- `AND (HL),n`, `11100011 01100100 nnnnnnnn`: R213, R189, R59. -/
def execAndAtHLN (n : Byte) (s : State) : Result := .next (aluSrcN .and .hl n s)

/-- `AND (IX),n`, `11100100 01100100 nnnnnnnn`: R213, R189, R59. -/
def execAndAtIXN (n : Byte) (s : State) : Result := .next (aluSrcN .and .ix n s)

/-- `AND (IY),n`, `11100101 01100100 nnnnnnnn`: R213, R189, R59. -/
def execAndAtIYN (n : Byte) (s : State) : Result := .next (aluSrcN .and .iy n s)

/-- `AND (+SP),n`, `11100110 01100100 nnnnnnnn`: R213, R189, R63. -/
def execAndAtIncSPN (n : Byte) (s : State) : Result := .next (aluSrcN .and .incSP n s)

/-- `AND (HL+C),n`, `11100111 01100100 nnnnnnnn`: R213, R189, R61. -/
def execAndAtHLCN (n : Byte) (s : State) : Result := .next (aluSrcN .and .hlC n s)

/-- `AND (IX+d),n`, `11010100 dddddddd 01100100 nnnnnnnn`: R213, R189, R60. -/
def execAndAtIXdN (d : Byte) (n : Byte) (s : State) : Result := .next (aluSrcN .and (.ixd d) n s)

/-- `AND (IY+d),n`, `11010101 dddddddd 01100100 nnnnnnnn`: R213, R189, R60. -/
def execAndAtIYdN (d : Byte) (n : Byte) (s : State) : Result := .next (aluSrcN .and (.iyd d) n s)

/-- `AND (SP+d),n`, `11010110 dddddddd 01100100 nnnnnnnn`: R213, R189, R65. -/
def execAndAtSPdN (d : Byte) (n : Byte) (s : State) : Result := .next (aluSrcN .and (.spd d) n s)

/-- `AND (HL+d),n`, `11010111 dddddddd 01100100 nnnnnnnn`: R213, R189, R60. -/
def execAndAtHLdN (d : Byte) (n : Byte) (s : State) : Result := .next (aluSrcN .and (.hld d) n s)

/-- `AND (PC+A),n`, `01001111 01100100 nnnnnnnn`: R213, R189, R66. -/
def execAndAtPCAN (n : Byte) (s : State) : Result := .next (aluSrcN .and .pcA n s)

/-- `AND rr,(x)`, `11100000 xxxxxxxx 10rrr100`: R213, R194, R62. -/
def execAndRRAtX (rr : Reg16) (x : Byte) (s : State) : Result := .next (aluRRSrc .and rr (.x x) s)

/-- `AND rr,(vw)`, `11100001 wwwwwwww vvvvvvvv 10rrr100`: R213, R194, R67. -/
def execAndRRAtVW (rr : Reg16) (addr : Word) (s : State) : Result := .next (aluRRSrc .and rr (.vw addr) s)

/-- `AND rr,(DE)`, `11100010 10rrr100`: R213, R194, R59. -/
def execAndRRAtDE (rr : Reg16) (s : State) : Result := .next (aluRRSrc .and rr .de s)

/-- `AND rr,(HL)`, `11100011 10rrr100`: R213, R194, R59. -/
def execAndRRAtHL (rr : Reg16) (s : State) : Result := .next (aluRRSrc .and rr .hl s)

/-- `AND rr,(IX)`, `11100100 10rrr100`: R213, R194, R59. -/
def execAndRRAtIX (rr : Reg16) (s : State) : Result := .next (aluRRSrc .and rr .ix s)

/-- `AND rr,(IY)`, `11100101 10rrr100`: R213, R194, R59. -/
def execAndRRAtIY (rr : Reg16) (s : State) : Result := .next (aluRRSrc .and rr .iy s)

/-- `AND rr,(+SP)`, `11100110 10rrr100`: R213, R194, R63. -/
def execAndRRAtIncSP (rr : Reg16) (s : State) : Result := .next (aluRRSrc .and rr .incSP s)

/-- `AND rr,(HL+C)`, `11100111 10rrr100`: R213, R194, R61. -/
def execAndRRAtHLC (rr : Reg16) (s : State) : Result := .next (aluRRSrc .and rr .hlC s)

/-- `AND rr,(IX+d)`, `11010100 dddddddd 10rrr100`: R213, R194, R60. -/
def execAndRRAtIXd (rr : Reg16) (d : Byte) (s : State) : Result := .next (aluRRSrc .and rr (.ixd d) s)

/-- `AND rr,(IY+d)`, `11010101 dddddddd 10rrr100`: R213, R194, R60. -/
def execAndRRAtIYd (rr : Reg16) (d : Byte) (s : State) : Result := .next (aluRRSrc .and rr (.iyd d) s)

/-- `AND rr,(SP+d)`, `11010110 dddddddd 10rrr100`: R213, R194, R65. -/
def execAndRRAtSPd (rr : Reg16) (d : Byte) (s : State) : Result := .next (aluRRSrc .and rr (.spd d) s)

/-- `AND rr,(HL+d)`, `11010111 dddddddd 10rrr100`: R213, R194, R60. -/
def execAndRRAtHLd (rr : Reg16) (d : Byte) (s : State) : Result := .next (aluRRSrc .and rr (.hld d) s)

/-- `AND rr,(PC+A)`, `01001111 10rrr100`: R213, R194, R66. -/
def execAndRRAtPCA (rr : Reg16) (s : State) : Result := .next (aluRRSrc .and rr .pcA s)

/-- `XOR r,(x)`, `11100000 xxxxxxxx 00rrr101`: R215, R188, R62. -/
def execXorRAtX (r : Reg8) (x : Byte) (s : State) : Result := .next (aluRSrc .xor r (.x x) s)

/-- `XOR r,(vw)`, `11100001 wwwwwwww vvvvvvvv 00rrr101`: R215, R188, R67. -/
def execXorRAtVW (r : Reg8) (addr : Word) (s : State) : Result := .next (aluRSrc .xor r (.vw addr) s)

/-- `XOR r,(DE)`, `11100010 00rrr101`: R215, R188, R59. -/
def execXorRAtDE (r : Reg8) (s : State) : Result := .next (aluRSrc .xor r .de s)

/-- `XOR r,(HL)`, `11100011 00rrr101`: R215, R188, R59. -/
def execXorRAtHL (r : Reg8) (s : State) : Result := .next (aluRSrc .xor r .hl s)

/-- `XOR r,(IX)`, `11100100 00rrr101`: R215, R188, R59. -/
def execXorRAtIX (r : Reg8) (s : State) : Result := .next (aluRSrc .xor r .ix s)

/-- `XOR r,(IY)`, `11100101 00rrr101`: R215, R188, R59. -/
def execXorRAtIY (r : Reg8) (s : State) : Result := .next (aluRSrc .xor r .iy s)

/-- `XOR r,(+SP)`, `11100110 00rrr101`: R215, R188, R63. -/
def execXorRAtIncSP (r : Reg8) (s : State) : Result := .next (aluRSrc .xor r .incSP s)

/-- `XOR r,(HL+C)`, `11100111 00rrr101`: R215, R188, R61. -/
def execXorRAtHLC (r : Reg8) (s : State) : Result := .next (aluRSrc .xor r .hlC s)

/-- `XOR r,(IX+d)`, `11010100 dddddddd 00rrr101`: R215, R188, R60. -/
def execXorRAtIXd (r : Reg8) (d : Byte) (s : State) : Result := .next (aluRSrc .xor r (.ixd d) s)

/-- `XOR r,(IY+d)`, `11010101 dddddddd 00rrr101`: R215, R188, R60. -/
def execXorRAtIYd (r : Reg8) (d : Byte) (s : State) : Result := .next (aluRSrc .xor r (.iyd d) s)

/-- `XOR r,(SP+d)`, `11010110 dddddddd 00rrr101`: R215, R188, R65. -/
def execXorRAtSPd (r : Reg8) (d : Byte) (s : State) : Result := .next (aluRSrc .xor r (.spd d) s)

/-- `XOR r,(HL+d)`, `11010111 dddddddd 00rrr101`: R215, R188, R60. -/
def execXorRAtHLd (r : Reg8) (d : Byte) (s : State) : Result := .next (aluRSrc .xor r (.hld d) s)

/-- `XOR r,(PC+A)`, `01001111 00rrr101`: R215, R188, R66. -/
def execXorRAtPCA (r : Reg8) (s : State) : Result := .next (aluRSrc .xor r .pcA s)

/-- `XOR (x),n`, `11100000 xxxxxxxx 01100101 nnnnnnnn`: R215, R189, R62. -/
def execXorAtXN (x : Byte) (n : Byte) (s : State) : Result := .next (aluSrcN .xor (.x x) n s)

/-- `XOR (vw),n`, `11100001 wwwwwwww vvvvvvvv 01100101 nnnnnnnn`: R215, R189, R67. -/
def execXorAtVWN (addr : Word) (n : Byte) (s : State) : Result := .next (aluSrcN .xor (.vw addr) n s)

/-- `XOR (DE),n`, `11100010 01100101 nnnnnnnn`: R215, R189, R59. -/
def execXorAtDEN (n : Byte) (s : State) : Result := .next (aluSrcN .xor .de n s)

/-- `XOR (HL),n`, `11100011 01100101 nnnnnnnn`: R215, R189, R59. -/
def execXorAtHLN (n : Byte) (s : State) : Result := .next (aluSrcN .xor .hl n s)

/-- `XOR (IX),n`, `11100100 01100101 nnnnnnnn`: R215, R189, R59. -/
def execXorAtIXN (n : Byte) (s : State) : Result := .next (aluSrcN .xor .ix n s)

/-- `XOR (IY),n`, `11100101 01100101 nnnnnnnn`: R215, R189, R59. -/
def execXorAtIYN (n : Byte) (s : State) : Result := .next (aluSrcN .xor .iy n s)

/-- `XOR (+SP),n`, `11100110 01100101 nnnnnnnn`: R215, R189, R63. -/
def execXorAtIncSPN (n : Byte) (s : State) : Result := .next (aluSrcN .xor .incSP n s)

/-- `XOR (HL+C),n`, `11100111 01100101 nnnnnnnn`: R215, R189, R61. -/
def execXorAtHLCN (n : Byte) (s : State) : Result := .next (aluSrcN .xor .hlC n s)

/-- `XOR (IX+d),n`, `11010100 dddddddd 01100101 nnnnnnnn`: R215, R189, R60. -/
def execXorAtIXdN (d : Byte) (n : Byte) (s : State) : Result := .next (aluSrcN .xor (.ixd d) n s)

/-- `XOR (IY+d),n`, `11010101 dddddddd 01100101 nnnnnnnn`: R215, R189, R60. -/
def execXorAtIYdN (d : Byte) (n : Byte) (s : State) : Result := .next (aluSrcN .xor (.iyd d) n s)

/-- `XOR (SP+d),n`, `11010110 dddddddd 01100101 nnnnnnnn`: R215, R189, R65. -/
def execXorAtSPdN (d : Byte) (n : Byte) (s : State) : Result := .next (aluSrcN .xor (.spd d) n s)

/-- `XOR (HL+d),n`, `11010111 dddddddd 01100101 nnnnnnnn`: R215, R189, R60. -/
def execXorAtHLdN (d : Byte) (n : Byte) (s : State) : Result := .next (aluSrcN .xor (.hld d) n s)

/-- `XOR (PC+A),n`, `01001111 01100101 nnnnnnnn`: R215, R189, R66. -/
def execXorAtPCAN (n : Byte) (s : State) : Result := .next (aluSrcN .xor .pcA n s)

/-- `XOR rr,(x)`, `11100000 xxxxxxxx 10rrr101`: R215, R194, R62. -/
def execXorRRAtX (rr : Reg16) (x : Byte) (s : State) : Result := .next (aluRRSrc .xor rr (.x x) s)

/-- `XOR rr,(vw)`, `11100001 wwwwwwww vvvvvvvv 10rrr101`: R215, R194, R67. -/
def execXorRRAtVW (rr : Reg16) (addr : Word) (s : State) : Result := .next (aluRRSrc .xor rr (.vw addr) s)

/-- `XOR rr,(DE)`, `11100010 10rrr101`: R215, R194, R59. -/
def execXorRRAtDE (rr : Reg16) (s : State) : Result := .next (aluRRSrc .xor rr .de s)

/-- `XOR rr,(HL)`, `11100011 10rrr101`: R215, R194, R59. -/
def execXorRRAtHL (rr : Reg16) (s : State) : Result := .next (aluRRSrc .xor rr .hl s)

/-- `XOR rr,(IX)`, `11100100 10rrr101`: R215, R194, R59. -/
def execXorRRAtIX (rr : Reg16) (s : State) : Result := .next (aluRRSrc .xor rr .ix s)

/-- `XOR rr,(IY)`, `11100101 10rrr101`: R215, R194, R59. -/
def execXorRRAtIY (rr : Reg16) (s : State) : Result := .next (aluRRSrc .xor rr .iy s)

/-- `XOR rr,(+SP)`, `11100110 10rrr101`: R215, R194, R63. -/
def execXorRRAtIncSP (rr : Reg16) (s : State) : Result := .next (aluRRSrc .xor rr .incSP s)

/-- `XOR rr,(HL+C)`, `11100111 10rrr101`: R215, R194, R61. -/
def execXorRRAtHLC (rr : Reg16) (s : State) : Result := .next (aluRRSrc .xor rr .hlC s)

/-- `XOR rr,(IX+d)`, `11010100 dddddddd 10rrr101`: R215, R194, R60. -/
def execXorRRAtIXd (rr : Reg16) (d : Byte) (s : State) : Result := .next (aluRRSrc .xor rr (.ixd d) s)

/-- `XOR rr,(IY+d)`, `11010101 dddddddd 10rrr101`: R215, R194, R60. -/
def execXorRRAtIYd (rr : Reg16) (d : Byte) (s : State) : Result := .next (aluRRSrc .xor rr (.iyd d) s)

/-- `XOR rr,(SP+d)`, `11010110 dddddddd 10rrr101`: R215, R194, R65. -/
def execXorRRAtSPd (rr : Reg16) (d : Byte) (s : State) : Result := .next (aluRRSrc .xor rr (.spd d) s)

/-- `XOR rr,(HL+d)`, `11010111 dddddddd 10rrr101`: R215, R194, R60. -/
def execXorRRAtHLd (rr : Reg16) (d : Byte) (s : State) : Result := .next (aluRRSrc .xor rr (.hld d) s)

/-- `XOR rr,(PC+A)`, `01001111 10rrr101`: R215, R194, R66. -/
def execXorRRAtPCA (rr : Reg16) (s : State) : Result := .next (aluRRSrc .xor rr .pcA s)

/-- `OR r,(x)`, `11100000 xxxxxxxx 00rrr110`: R214, R188, R62. -/
def execOrRAtX (r : Reg8) (x : Byte) (s : State) : Result := .next (aluRSrc .or r (.x x) s)

/-- `OR r,(vw)`, `11100001 wwwwwwww vvvvvvvv 00rrr110`: R214, R188, R67. -/
def execOrRAtVW (r : Reg8) (addr : Word) (s : State) : Result := .next (aluRSrc .or r (.vw addr) s)

/-- `OR r,(DE)`, `11100010 00rrr110`: R214, R188, R59. -/
def execOrRAtDE (r : Reg8) (s : State) : Result := .next (aluRSrc .or r .de s)

/-- `OR r,(HL)`, `11100011 00rrr110`: R214, R188, R59. -/
def execOrRAtHL (r : Reg8) (s : State) : Result := .next (aluRSrc .or r .hl s)

/-- `OR r,(IX)`, `11100100 00rrr110`: R214, R188, R59. -/
def execOrRAtIX (r : Reg8) (s : State) : Result := .next (aluRSrc .or r .ix s)

/-- `OR r,(IY)`, `11100101 00rrr110`: R214, R188, R59. -/
def execOrRAtIY (r : Reg8) (s : State) : Result := .next (aluRSrc .or r .iy s)

/-- `OR r,(+SP)`, `11100110 00rrr110`: R214, R188, R63. -/
def execOrRAtIncSP (r : Reg8) (s : State) : Result := .next (aluRSrc .or r .incSP s)

/-- `OR r,(HL+C)`, `11100111 00rrr110`: R214, R188, R61. -/
def execOrRAtHLC (r : Reg8) (s : State) : Result := .next (aluRSrc .or r .hlC s)

/-- `OR r,(IX+d)`, `11010100 dddddddd 00rrr110`: R214, R188, R60. -/
def execOrRAtIXd (r : Reg8) (d : Byte) (s : State) : Result := .next (aluRSrc .or r (.ixd d) s)

/-- `OR r,(IY+d)`, `11010101 dddddddd 00rrr110`: R214, R188, R60. -/
def execOrRAtIYd (r : Reg8) (d : Byte) (s : State) : Result := .next (aluRSrc .or r (.iyd d) s)

/-- `OR r,(SP+d)`, `11010110 dddddddd 00rrr110`: R214, R188, R65. -/
def execOrRAtSPd (r : Reg8) (d : Byte) (s : State) : Result := .next (aluRSrc .or r (.spd d) s)

/-- `OR r,(HL+d)`, `11010111 dddddddd 00rrr110`: R214, R188, R60. -/
def execOrRAtHLd (r : Reg8) (d : Byte) (s : State) : Result := .next (aluRSrc .or r (.hld d) s)

/-- `OR r,(PC+A)`, `01001111 00rrr110`: R214, R188, R66. -/
def execOrRAtPCA (r : Reg8) (s : State) : Result := .next (aluRSrc .or r .pcA s)

/-- `OR (x),n`, `11100000 xxxxxxxx 01100110 nnnnnnnn`: R214, R189, R62. -/
def execOrAtXN (x : Byte) (n : Byte) (s : State) : Result := .next (aluSrcN .or (.x x) n s)

/-- `OR (vw),n`, `11100001 wwwwwwww vvvvvvvv 01100110 nnnnnnnn`: R214, R189, R67. -/
def execOrAtVWN (addr : Word) (n : Byte) (s : State) : Result := .next (aluSrcN .or (.vw addr) n s)

/-- `OR (DE),n`, `11100010 01100110 nnnnnnnn`: R214, R189, R59. -/
def execOrAtDEN (n : Byte) (s : State) : Result := .next (aluSrcN .or .de n s)

/-- `OR (HL),n`, `11100011 01100110 nnnnnnnn`: R214, R189, R59. -/
def execOrAtHLN (n : Byte) (s : State) : Result := .next (aluSrcN .or .hl n s)

/-- `OR (IX),n`, `11100100 01100110 nnnnnnnn`: R214, R189, R59. -/
def execOrAtIXN (n : Byte) (s : State) : Result := .next (aluSrcN .or .ix n s)

/-- `OR (IY),n`, `11100101 01100110 nnnnnnnn`: R214, R189, R59. -/
def execOrAtIYN (n : Byte) (s : State) : Result := .next (aluSrcN .or .iy n s)

/-- `OR (+SP),n`, `11100110 01100110 nnnnnnnn`: R214, R189, R63. -/
def execOrAtIncSPN (n : Byte) (s : State) : Result := .next (aluSrcN .or .incSP n s)

/-- `OR (HL+C),n`, `11100111 01100110 nnnnnnnn`: R214, R189, R61. -/
def execOrAtHLCN (n : Byte) (s : State) : Result := .next (aluSrcN .or .hlC n s)

/-- `OR (IX+d),n`, `11010100 dddddddd 01100110 nnnnnnnn`: R214, R189, R60. -/
def execOrAtIXdN (d : Byte) (n : Byte) (s : State) : Result := .next (aluSrcN .or (.ixd d) n s)

/-- `OR (IY+d),n`, `11010101 dddddddd 01100110 nnnnnnnn`: R214, R189, R60. -/
def execOrAtIYdN (d : Byte) (n : Byte) (s : State) : Result := .next (aluSrcN .or (.iyd d) n s)

/-- `OR (SP+d),n`, `11010110 dddddddd 01100110 nnnnnnnn`: R214, R189, R65. -/
def execOrAtSPdN (d : Byte) (n : Byte) (s : State) : Result := .next (aluSrcN .or (.spd d) n s)

/-- `OR (HL+d),n`, `11010111 dddddddd 01100110 nnnnnnnn`: R214, R189, R60. -/
def execOrAtHLdN (d : Byte) (n : Byte) (s : State) : Result := .next (aluSrcN .or (.hld d) n s)

/-- `OR (PC+A),n`, `01001111 01100110 nnnnnnnn`: R214, R189, R66. -/
def execOrAtPCAN (n : Byte) (s : State) : Result := .next (aluSrcN .or .pcA n s)

/-- `OR rr,(x)`, `11100000 xxxxxxxx 10rrr110`: R214, R194, R62. -/
def execOrRRAtX (rr : Reg16) (x : Byte) (s : State) : Result := .next (aluRRSrc .or rr (.x x) s)

/-- `OR rr,(vw)`, `11100001 wwwwwwww vvvvvvvv 10rrr110`: R214, R194, R67. -/
def execOrRRAtVW (rr : Reg16) (addr : Word) (s : State) : Result := .next (aluRRSrc .or rr (.vw addr) s)

/-- `OR rr,(DE)`, `11100010 10rrr110`: R214, R194, R59. -/
def execOrRRAtDE (rr : Reg16) (s : State) : Result := .next (aluRRSrc .or rr .de s)

/-- `OR rr,(HL)`, `11100011 10rrr110`: R214, R194, R59. -/
def execOrRRAtHL (rr : Reg16) (s : State) : Result := .next (aluRRSrc .or rr .hl s)

/-- `OR rr,(IX)`, `11100100 10rrr110`: R214, R194, R59. -/
def execOrRRAtIX (rr : Reg16) (s : State) : Result := .next (aluRRSrc .or rr .ix s)

/-- `OR rr,(IY)`, `11100101 10rrr110`: R214, R194, R59. -/
def execOrRRAtIY (rr : Reg16) (s : State) : Result := .next (aluRRSrc .or rr .iy s)

/-- `OR rr,(+SP)`, `11100110 10rrr110`: R214, R194, R63. -/
def execOrRRAtIncSP (rr : Reg16) (s : State) : Result := .next (aluRRSrc .or rr .incSP s)

/-- `OR rr,(HL+C)`, `11100111 10rrr110`: R214, R194, R61. -/
def execOrRRAtHLC (rr : Reg16) (s : State) : Result := .next (aluRRSrc .or rr .hlC s)

/-- `OR rr,(IX+d)`, `11010100 dddddddd 10rrr110`: R214, R194, R60. -/
def execOrRRAtIXd (rr : Reg16) (d : Byte) (s : State) : Result := .next (aluRRSrc .or rr (.ixd d) s)

/-- `OR rr,(IY+d)`, `11010101 dddddddd 10rrr110`: R214, R194, R60. -/
def execOrRRAtIYd (rr : Reg16) (d : Byte) (s : State) : Result := .next (aluRRSrc .or rr (.iyd d) s)

/-- `OR rr,(SP+d)`, `11010110 dddddddd 10rrr110`: R214, R194, R65. -/
def execOrRRAtSPd (rr : Reg16) (d : Byte) (s : State) : Result := .next (aluRRSrc .or rr (.spd d) s)

/-- `OR rr,(HL+d)`, `11010111 dddddddd 10rrr110`: R214, R194, R60. -/
def execOrRRAtHLd (rr : Reg16) (d : Byte) (s : State) : Result := .next (aluRRSrc .or rr (.hld d) s)

/-- `OR rr,(PC+A)`, `01001111 10rrr110`: R214, R194, R66. -/
def execOrRRAtPCA (rr : Reg16) (s : State) : Result := .next (aluRRSrc .or rr .pcA s)

/-- `CMP r,(x)`, `11100000 xxxxxxxx 00rrr111`: R199, R188, R62. -/
def execCmpRAtX (r : Reg8) (x : Byte) (s : State) : Result := .next (aluRSrc .cmp r (.x x) s)

/-- `CMP r,(vw)`, `11100001 wwwwwwww vvvvvvvv 00rrr111`: R199, R188, R67. -/
def execCmpRAtVW (r : Reg8) (addr : Word) (s : State) : Result := .next (aluRSrc .cmp r (.vw addr) s)

/-- `CMP r,(DE)`, `11100010 00rrr111`: R199, R188, R59. -/
def execCmpRAtDE (r : Reg8) (s : State) : Result := .next (aluRSrc .cmp r .de s)

/-- `CMP r,(HL)`, `11100011 00rrr111`: R199, R188, R59. -/
def execCmpRAtHL (r : Reg8) (s : State) : Result := .next (aluRSrc .cmp r .hl s)

/-- `CMP r,(IX)`, `11100100 00rrr111`: R199, R188, R59. -/
def execCmpRAtIX (r : Reg8) (s : State) : Result := .next (aluRSrc .cmp r .ix s)

/-- `CMP r,(IY)`, `11100101 00rrr111`: R199, R188, R59. -/
def execCmpRAtIY (r : Reg8) (s : State) : Result := .next (aluRSrc .cmp r .iy s)

/-- `CMP r,(+SP)`, `11100110 00rrr111`: R199, R188, R63. -/
def execCmpRAtIncSP (r : Reg8) (s : State) : Result := .next (aluRSrc .cmp r .incSP s)

/-- `CMP r,(HL+C)`, `11100111 00rrr111`: R199, R188, R61. -/
def execCmpRAtHLC (r : Reg8) (s : State) : Result := .next (aluRSrc .cmp r .hlC s)

/-- `CMP r,(IX+d)`, `11010100 dddddddd 00rrr111`: R199, R188, R60. -/
def execCmpRAtIXd (r : Reg8) (d : Byte) (s : State) : Result := .next (aluRSrc .cmp r (.ixd d) s)

/-- `CMP r,(IY+d)`, `11010101 dddddddd 00rrr111`: R199, R188, R60. -/
def execCmpRAtIYd (r : Reg8) (d : Byte) (s : State) : Result := .next (aluRSrc .cmp r (.iyd d) s)

/-- `CMP r,(SP+d)`, `11010110 dddddddd 00rrr111`: R199, R188, R65. -/
def execCmpRAtSPd (r : Reg8) (d : Byte) (s : State) : Result := .next (aluRSrc .cmp r (.spd d) s)

/-- `CMP r,(HL+d)`, `11010111 dddddddd 00rrr111`: R199, R188, R60. -/
def execCmpRAtHLd (r : Reg8) (d : Byte) (s : State) : Result := .next (aluRSrc .cmp r (.hld d) s)

/-- `CMP r,(PC+A)`, `01001111 00rrr111`: R199, R188, R66. -/
def execCmpRAtPCA (r : Reg8) (s : State) : Result := .next (aluRSrc .cmp r .pcA s)

/-- `CMP (x),n` (long form, R95), `11100000 xxxxxxxx 01100111 nnnnnnnn`: R199, R189, R62. -/
def execCmpAtXNLong (x : Byte) (n : Byte) (s : State) : Result := .next (aluSrcN .cmp (.x x) n s)

/-- `CMP (vw),n`, `11100001 wwwwwwww vvvvvvvv 01100111 nnnnnnnn`: R199, R189, R67. -/
def execCmpAtVWN (addr : Word) (n : Byte) (s : State) : Result := .next (aluSrcN .cmp (.vw addr) n s)

/-- `CMP (DE),n`, `11100010 01100111 nnnnnnnn`: R199, R189, R59. -/
def execCmpAtDEN (n : Byte) (s : State) : Result := .next (aluSrcN .cmp .de n s)

/-- `CMP (HL),n`, `11100011 01100111 nnnnnnnn`: R199, R189, R59. -/
def execCmpAtHLN (n : Byte) (s : State) : Result := .next (aluSrcN .cmp .hl n s)

/-- `CMP (IX),n`, `11100100 01100111 nnnnnnnn`: R199, R189, R59. -/
def execCmpAtIXN (n : Byte) (s : State) : Result := .next (aluSrcN .cmp .ix n s)

/-- `CMP (IY),n`, `11100101 01100111 nnnnnnnn`: R199, R189, R59. -/
def execCmpAtIYN (n : Byte) (s : State) : Result := .next (aluSrcN .cmp .iy n s)

/-- `CMP (+SP),n`, `11100110 01100111 nnnnnnnn`: R199, R189, R63. -/
def execCmpAtIncSPN (n : Byte) (s : State) : Result := .next (aluSrcN .cmp .incSP n s)

/-- `CMP (HL+C),n`, `11100111 01100111 nnnnnnnn`: R199, R189, R61. -/
def execCmpAtHLCN (n : Byte) (s : State) : Result := .next (aluSrcN .cmp .hlC n s)

/-- `CMP (IX+d),n`, `11010100 dddddddd 01100111 nnnnnnnn`: R199, R189, R60. -/
def execCmpAtIXdN (d : Byte) (n : Byte) (s : State) : Result := .next (aluSrcN .cmp (.ixd d) n s)

/-- `CMP (IY+d),n`, `11010101 dddddddd 01100111 nnnnnnnn`: R199, R189, R60. -/
def execCmpAtIYdN (d : Byte) (n : Byte) (s : State) : Result := .next (aluSrcN .cmp (.iyd d) n s)

/-- `CMP (SP+d),n`, `11010110 dddddddd 01100111 nnnnnnnn`: R199, R189, R65. -/
def execCmpAtSPdN (d : Byte) (n : Byte) (s : State) : Result := .next (aluSrcN .cmp (.spd d) n s)

/-- `CMP (HL+d),n`, `11010111 dddddddd 01100111 nnnnnnnn`: R199, R189, R60. -/
def execCmpAtHLdN (d : Byte) (n : Byte) (s : State) : Result := .next (aluSrcN .cmp (.hld d) n s)

/-- `CMP (PC+A),n`, `01001111 01100111 nnnnnnnn`: R199, R189, R66. -/
def execCmpAtPCAN (n : Byte) (s : State) : Result := .next (aluSrcN .cmp .pcA n s)

/-- `CMP rr,(x)`, `11100000 xxxxxxxx 10rrr111`: R199, R194, R62. -/
def execCmpRRAtX (rr : Reg16) (x : Byte) (s : State) : Result := .next (aluRRSrc .cmp rr (.x x) s)

/-- `CMP rr,(vw)`, `11100001 wwwwwwww vvvvvvvv 10rrr111`: R199, R194, R67. -/
def execCmpRRAtVW (rr : Reg16) (addr : Word) (s : State) : Result := .next (aluRRSrc .cmp rr (.vw addr) s)

/-- `CMP rr,(DE)`, `11100010 10rrr111`: R199, R194, R59. -/
def execCmpRRAtDE (rr : Reg16) (s : State) : Result := .next (aluRRSrc .cmp rr .de s)

/-- `CMP rr,(HL)`, `11100011 10rrr111`: R199, R194, R59. -/
def execCmpRRAtHL (rr : Reg16) (s : State) : Result := .next (aluRRSrc .cmp rr .hl s)

/-- `CMP rr,(IX)`, `11100100 10rrr111`: R199, R194, R59. -/
def execCmpRRAtIX (rr : Reg16) (s : State) : Result := .next (aluRRSrc .cmp rr .ix s)

/-- `CMP rr,(IY)`, `11100101 10rrr111`: R199, R194, R59. -/
def execCmpRRAtIY (rr : Reg16) (s : State) : Result := .next (aluRRSrc .cmp rr .iy s)

/-- `CMP rr,(+SP)`, `11100110 10rrr111`: R199, R194, R63. -/
def execCmpRRAtIncSP (rr : Reg16) (s : State) : Result := .next (aluRRSrc .cmp rr .incSP s)

/-- `CMP rr,(HL+C)`, `11100111 10rrr111`: R199, R194, R61. -/
def execCmpRRAtHLC (rr : Reg16) (s : State) : Result := .next (aluRRSrc .cmp rr .hlC s)

/-- `CMP rr,(IX+d)`, `11010100 dddddddd 10rrr111`: R199, R194, R60. -/
def execCmpRRAtIXd (rr : Reg16) (d : Byte) (s : State) : Result := .next (aluRRSrc .cmp rr (.ixd d) s)

/-- `CMP rr,(IY+d)`, `11010101 dddddddd 10rrr111`: R199, R194, R60. -/
def execCmpRRAtIYd (rr : Reg16) (d : Byte) (s : State) : Result := .next (aluRRSrc .cmp rr (.iyd d) s)

/-- `CMP rr,(SP+d)`, `11010110 dddddddd 10rrr111`: R199, R194, R65. -/
def execCmpRRAtSPd (rr : Reg16) (d : Byte) (s : State) : Result := .next (aluRRSrc .cmp rr (.spd d) s)

/-- `CMP rr,(HL+d)`, `11010111 dddddddd 10rrr111`: R199, R194, R60. -/
def execCmpRRAtHLd (rr : Reg16) (d : Byte) (s : State) : Result := .next (aluRRSrc .cmp rr (.hld d) s)

/-- `CMP rr,(PC+A)`, `01001111 10rrr111`: R199, R194, R66. -/
def execCmpRRAtPCA (rr : Reg16) (s : State) : Result := .next (aluRRSrc .cmp rr .pcA s)

/-- `INC (x)`, `11100000 xxxxxxxx 11110000`: R202, R62. -/
def execIncAtX (x : Byte) (s : State) : Result := .next (incSrc (.x x) s)

/-- `INC (vw)`, `11100001 wwwwwwww vvvvvvvv 11110000`: R202, R67. -/
def execIncAtVW (addr : Word) (s : State) : Result := .next (incSrc (.vw addr) s)

/-- `INC (DE)`, `11100010 11110000`: R202, R59. -/
def execIncAtDE (s : State) : Result := .next (incSrc .de s)

/-- `INC (HL)`, `11100011 11110000`: R202, R59. -/
def execIncAtHL (s : State) : Result := .next (incSrc .hl s)

/-- `INC (IX)`, `11100100 11110000`: R202, R59. -/
def execIncAtIX (s : State) : Result := .next (incSrc .ix s)

/-- `INC (IY)`, `11100101 11110000`: R202, R59. -/
def execIncAtIY (s : State) : Result := .next (incSrc .iy s)

/-- `INC (+SP)`, `11100110 11110000`: R202, R63. -/
def execIncAtIncSP (s : State) : Result := .next (incSrc .incSP s)

/-- `INC (HL+C)`, `11100111 11110000`: R202, R61. -/
def execIncAtHLC (s : State) : Result := .next (incSrc .hlC s)

/-- `INC (IX+d)`, `11010100 dddddddd 11110000`: R202, R60. -/
def execIncAtIXd (d : Byte) (s : State) : Result := .next (incSrc (.ixd d) s)

/-- `INC (IY+d)`, `11010101 dddddddd 11110000`: R202, R60. -/
def execIncAtIYd (d : Byte) (s : State) : Result := .next (incSrc (.iyd d) s)

/-- `INC (SP+d)`, `11010110 dddddddd 11110000`: R202, R65. -/
def execIncAtSPd (d : Byte) (s : State) : Result := .next (incSrc (.spd d) s)

/-- `INC (HL+d)`, `11010111 dddddddd 11110000`: R202, R60. -/
def execIncAtHLd (d : Byte) (s : State) : Result := .next (incSrc (.hld d) s)

/-- `INC (PC+A)`, `01001111 11110000`: R202, R66. -/
def execIncAtPCA (s : State) : Result := .next (incSrc .pcA s)

/-- `DEC (x)`, `11100000 xxxxxxxx 11111000`: R205, R62. -/
def execDecAtX (x : Byte) (s : State) : Result := .next (decSrc (.x x) s)

/-- `DEC (vw)`, `11100001 wwwwwwww vvvvvvvv 11111000`: R205, R67. -/
def execDecAtVW (addr : Word) (s : State) : Result := .next (decSrc (.vw addr) s)

/-- `DEC (DE)`, `11100010 11111000`: R205, R59. -/
def execDecAtDE (s : State) : Result := .next (decSrc .de s)

/-- `DEC (HL)`, `11100011 11111000`: R205, R59. -/
def execDecAtHL (s : State) : Result := .next (decSrc .hl s)

/-- `DEC (IX)`, `11100100 11111000`: R205, R59. -/
def execDecAtIX (s : State) : Result := .next (decSrc .ix s)

/-- `DEC (IY)`, `11100101 11111000`: R205, R59. -/
def execDecAtIY (s : State) : Result := .next (decSrc .iy s)

/-- `DEC (+SP)`, `11100110 11111000`: R205, R63. -/
def execDecAtIncSP (s : State) : Result := .next (decSrc .incSP s)

/-- `DEC (HL+C)`, `11100111 11111000`: R205, R61. -/
def execDecAtHLC (s : State) : Result := .next (decSrc .hlC s)

/-- `DEC (IX+d)`, `11010100 dddddddd 11111000`: R205, R60. -/
def execDecAtIXd (d : Byte) (s : State) : Result := .next (decSrc (.ixd d) s)

/-- `DEC (IY+d)`, `11010101 dddddddd 11111000`: R205, R60. -/
def execDecAtIYd (d : Byte) (s : State) : Result := .next (decSrc (.iyd d) s)

/-- `DEC (SP+d)`, `11010110 dddddddd 11111000`: R205, R65. -/
def execDecAtSPd (d : Byte) (s : State) : Result := .next (decSrc (.spd d) s)

/-- `DEC (HL+d)`, `11010111 dddddddd 11111000`: R205, R60. -/
def execDecAtHLd (d : Byte) (s : State) : Result := .next (decSrc (.hld d) s)

/-- `DEC (PC+A)`, `01001111 11111000`: R205, R66. -/
def execDecAtPCA (s : State) : Result := .next (decSrc .pcA s)

end Sys2Proof.Machine
end

