-- ==== Sys2Proof/Machine/BitFlag.lean ====
section
/-!
DEFINITION. Bit manipulation and flag instructions (spec 43_bit_flag.md). First the operations, then one
meaning for each row of the opcode table; `TEST`, `DI` and `EI` have the meaning of the instruction whose
code they are (R264, R283, R284).
-/

namespace Sys2Proof.Machine

/-- The new value of the bit (R251, R255, R270). -/
def bitAfter (op : BitOp) (old : Bool) : Bool :=
  match op with
  | .set => true
  | .clr => false
  | .cpl => !old

/-- R251 `SET g.b`, R255 `CLR g.b`, R270 `CPL g.b`: ZF and JF are the inverse of the old bit. -/
def bitGB (op : BitOp) (g : Reg8) (b : BitNo) (s : State) : State :=
  let v := readR8 s g
  let old := bitOf v b.toNat
  (setJZ (writeR8 s g (setBit v b.toNat (bitAfter op old))) (!old) (!old)).advance 2

/-- The bit operation on the memory byte at `a` (R252 to R258, R271, R272): one read, then one write. -/
def memBit (op : BitOp) (a : Word) (k : Nat) (s : State) : State :=
  let v := memRead8 s a
  let old := bitOf v k
  setJZ (memWrite8 s a (setBit v k (bitAfter op old))) (!old) (!old)

/-- R252 `SET (x).b`. -/
def setXB (x : Byte) (b : BitNo) (s : State) : State := (memBit .set (zext16 x) b.toNat s).advance 2

/-- R256 `CLR (x).b`. -/
def clrXB (x : Byte) (b : BitNo) (s : State) : State := (memBit .clr (zext16 x) b.toNat s).advance 2

/-- R253 `SET (src).b`, R257 `CLR (src).b`, R271 `CPL (src).b`. -/
def bitSrcB (op : BitOp) (m : Src) (b : BitNo) (s : State) : State :=
  let s1 := srcBegin m s
  (memBit op (srcAddr m s1) b.toNat s1).advance (2 + srcExtra m)

/-- R254 `SET (src).A`, R258 `CLR (src).A`, R272 `CPL (src).A`. -/
def bitSrcA (op : BitOp) (m : Src) (s : State) : State :=
  let s1 := srcBegin m s
  (memBit op (srcAddr m s1) (bitNoOfA s1) s1).advance (2 + srcExtra m)

/-- `CF <- c; JF <- not c` (R259). -/
def loadCF (s : State) (c : Bool) : State := setJC s (!c) c

/-- R260 `LD CF,g.b`. -/
def ldCFGB (g : Reg8) (b : BitNo) (s : State) : State := (loadCF s (bitOf (readR8 s g) b.toNat)).advance 2

/-- R261 `LD CF,(x).b`. -/
def ldCFXB (x : Byte) (b : BitNo) (s : State) : State :=
  (loadCF s (bitOf (memRead8 s (zext16 x)) b.toNat)).advance 2

/-- R262 `LD CF,(src).b`. -/
def ldCFSrcB (m : Src) (b : BitNo) (s : State) : State :=
  let s1 := srcBegin m s
  (loadCF s1 (bitOf (memRead8 s1 (srcAddr m s1)) b.toNat)).advance (2 + srcExtra m)

/-- R263 `LD CF,(src).A`. -/
def ldCFSrcA (m : Src) (s : State) : State :=
  let s1 := srcBegin m s
  (loadCF s1 (bitOf (memRead8 s1 (srcAddr m s1)) (bitNoOfA s1))).advance (2 + srcExtra m)

/-- R265 `LD g.b,CF`. -/
def ldGBCF (g : Reg8) (b : BitNo) (s : State) : State :=
  (setJ (writeR8 s g (setBit (readR8 s g) b.toNat s.psw.cf)) true).advance 2

/-- R266 `LD (src).b,CF`. -/
def ldSrcBCF (m : Src) (b : BitNo) (s : State) : State :=
  let s1 := srcBegin m s
  let a := srcAddr m s1
  (setJ (memWrite8 s1 a (setBit (memRead8 s1 a) b.toNat s1.psw.cf)) true).advance (2 + srcExtra m)

/-- R267 `LD (src).A,CF`. -/
def ldSrcACF (m : Src) (s : State) : State :=
  let s1 := srcBegin m s
  let a := srcAddr m s1
  (setJ (memWrite8 s1 a (setBit (memRead8 s1 a) (bitNoOfA s1) s1.psw.cf)) true).advance (2 + srcExtra m)

/-- R276 `XOR CF,g.b`. -/
def xorCFGB (g : Reg8) (b : BitNo) (s : State) : State :=
  (loadCF s (s.psw.cf ^^ bitOf (readR8 s g) b.toNat)).advance 2

/-- R277 `XOR CF,(src).b`. -/
def xorCFSrcB (m : Src) (b : BitNo) (s : State) : State :=
  let s1 := srcBegin m s
  (loadCF s1 (s1.psw.cf ^^ bitOf (memRead8 s1 (srcAddr m s1)) b.toNat)).advance (2 + srcExtra m)

/-- R280 `SET CF`. -/
def setCF (s : State) : State := (setJC s false true).advance 1

/-- R281 `CLR CF`. -/
def clrCF (s : State) : State := (setJC s true false).advance 1

/-- R282 `CPL CF`: JF gets the value CF had before. -/
def cplCF (s : State) : State := (setJC s s.psw.cf (!s.psw.cf)).advance 1

/-! One meaning for each row of the opcode table. -/

/-- `CLR CF`, `00000100`: R281. -/
def execClrCF (s : State) : Result := .next (clrCF s)

/-- `SET CF`, `00000101`: R280. -/
def execSetCF (s : State) : Result := .next (setCF s)

/-- `CPL CF`, `00000110`: R282. -/
def execCplCF (s : State) : Result := .next (cplCF s)

/-- `LD CF,(x).b`, `01011bbb xxxxxxxx`: R261. -/
def execLdCFAtXb (x : Byte) (b : BitNo) (s : State) : Result := .next (ldCFXB x b s)

/-- `TEST (x).b`, `01011bbb xxxxxxxx`: R264. -/
def execTestAtXb (x : Byte) (b : BitNo) (s : State) : Result := .next (ldCFXB x b s)

/-- `SET (x).b`, `11000bbb xxxxxxxx`: R252. -/
def execSetAtXb (x : Byte) (b : BitNo) (s : State) : Result := .next (setXB x b s)

/-- `EI`, `11000000 00111010`: R284. -/
def execEi (s : State) : Result := .next (setXB (loByte Config.imfAddr) 0 s)

/-- `CLR (x).b`, `11001bbb xxxxxxxx`: R256. -/
def execClrAtXb (x : Byte) (b : BitNo) (s : State) : Result := .next (clrXB x b s)

/-- `DI`, `11001000 00111010`: R283. -/
def execDi (s : State) : Result := .next (clrXB (loByte Config.imfAddr) 0 s)

/-- `XOR CF,g.b`, `11101ggg 01010bbb`: R276. -/
def execXorCFGb (g : Reg8) (b : BitNo) (s : State) : Result := .next (xorCFGB g b s)

/-- `LD CF,g.b`, `11101ggg 01011bbb`: R260. -/
def execLdCFGb (g : Reg8) (b : BitNo) (s : State) : Result := .next (ldCFGB g b s)

/-- `TEST g.b`, `11101ggg 01011bbb`: R264. -/
def execTestGb (g : Reg8) (b : BitNo) (s : State) : Result := .next (ldCFGB g b s)

/-- `SET g.b`, `11101ggg 11000bbb`: R251. -/
def execSetGb (g : Reg8) (b : BitNo) (s : State) : Result := .next (bitGB .set g b s)

/-- `CLR g.b`, `11101ggg 11001bbb`: R255. -/
def execClrGb (g : Reg8) (b : BitNo) (s : State) : Result := .next (bitGB .clr g b s)

/-- `CPL g.b`, `11101ggg 11100bbb`: R270. -/
def execCplGb (g : Reg8) (b : BitNo) (s : State) : Result := .next (bitGB .cpl g b s)

/-- `LD g.b,CF`, `11101ggg 11101bbb`: R265. -/
def execLdGbCF (g : Reg8) (b : BitNo) (s : State) : Result := .next (ldGBCF g b s)

/-- `XOR CF,(x).b`, `11100000 xxxxxxxx 01010bbb`: R277, R62. -/
def execXorCFAtXb (x : Byte) (b : BitNo) (s : State) : Result := .next (xorCFSrcB (.x x) b s)

/-- `XOR CF,(vw).b`, `11100001 wwwwwwww vvvvvvvv 01010bbb`: R277, R67. -/
def execXorCFAtVWb (addr : Word) (b : BitNo) (s : State) : Result := .next (xorCFSrcB (.vw addr) b s)

/-- `XOR CF,(DE).b`, `11100010 01010bbb`: R277, R59. -/
def execXorCFAtDEb (b : BitNo) (s : State) : Result := .next (xorCFSrcB .de b s)

/-- `XOR CF,(HL).b`, `11100011 01010bbb`: R277, R59. -/
def execXorCFAtHLb (b : BitNo) (s : State) : Result := .next (xorCFSrcB .hl b s)

/-- `XOR CF,(IX).b`, `11100100 01010bbb`: R277, R59. -/
def execXorCFAtIXb (b : BitNo) (s : State) : Result := .next (xorCFSrcB .ix b s)

/-- `XOR CF,(IY).b`, `11100101 01010bbb`: R277, R59. -/
def execXorCFAtIYb (b : BitNo) (s : State) : Result := .next (xorCFSrcB .iy b s)

/-- `XOR CF,(+SP).b`, `11100110 01010bbb`: R277, R63. -/
def execXorCFAtIncSPb (b : BitNo) (s : State) : Result := .next (xorCFSrcB .incSP b s)

/-- `XOR CF,(HL+C).b`, `11100111 01010bbb`: R277, R61. -/
def execXorCFAtHLCb (b : BitNo) (s : State) : Result := .next (xorCFSrcB .hlC b s)

/-- `XOR CF,(IX+d).b`, `11010100 dddddddd 01010bbb`: R277, R60. -/
def execXorCFAtIXdb (d : Byte) (b : BitNo) (s : State) : Result := .next (xorCFSrcB (.ixd d) b s)

/-- `XOR CF,(IY+d).b`, `11010101 dddddddd 01010bbb`: R277, R60. -/
def execXorCFAtIYdb (d : Byte) (b : BitNo) (s : State) : Result := .next (xorCFSrcB (.iyd d) b s)

/-- `XOR CF,(SP+d).b`, `11010110 dddddddd 01010bbb`: R277, R65. -/
def execXorCFAtSPdb (d : Byte) (b : BitNo) (s : State) : Result := .next (xorCFSrcB (.spd d) b s)

/-- `XOR CF,(HL+d).b`, `11010111 dddddddd 01010bbb`: R277, R60. -/
def execXorCFAtHLdb (d : Byte) (b : BitNo) (s : State) : Result := .next (xorCFSrcB (.hld d) b s)

/-- `XOR CF,(PC+A).b`, `01001111 01010bbb`: R277, R66. -/
def execXorCFAtPCAb (b : BitNo) (s : State) : Result := .next (xorCFSrcB .pcA b s)

/-- `LD CF,(x).b` (long form, R95), `11100000 xxxxxxxx 01011bbb`: R262, R62. -/
def execLdCFAtXbLong (x : Byte) (b : BitNo) (s : State) : Result := .next (ldCFSrcB (.x x) b s)

/-- `LD CF,(vw).b`, `11100001 wwwwwwww vvvvvvvv 01011bbb`: R262, R67. -/
def execLdCFAtVWb (addr : Word) (b : BitNo) (s : State) : Result := .next (ldCFSrcB (.vw addr) b s)

/-- `LD CF,(DE).b`, `11100010 01011bbb`: R262, R59. -/
def execLdCFAtDEb (b : BitNo) (s : State) : Result := .next (ldCFSrcB .de b s)

/-- `LD CF,(HL).b`, `11100011 01011bbb`: R262, R59. -/
def execLdCFAtHLb (b : BitNo) (s : State) : Result := .next (ldCFSrcB .hl b s)

/-- `LD CF,(IX).b`, `11100100 01011bbb`: R262, R59. -/
def execLdCFAtIXb (b : BitNo) (s : State) : Result := .next (ldCFSrcB .ix b s)

/-- `LD CF,(IY).b`, `11100101 01011bbb`: R262, R59. -/
def execLdCFAtIYb (b : BitNo) (s : State) : Result := .next (ldCFSrcB .iy b s)

/-- `LD CF,(+SP).b`, `11100110 01011bbb`: R262, R63. -/
def execLdCFAtIncSPb (b : BitNo) (s : State) : Result := .next (ldCFSrcB .incSP b s)

/-- `LD CF,(HL+C).b`, `11100111 01011bbb`: R262, R61. -/
def execLdCFAtHLCb (b : BitNo) (s : State) : Result := .next (ldCFSrcB .hlC b s)

/-- `LD CF,(IX+d).b`, `11010100 dddddddd 01011bbb`: R262, R60. -/
def execLdCFAtIXdb (d : Byte) (b : BitNo) (s : State) : Result := .next (ldCFSrcB (.ixd d) b s)

/-- `LD CF,(IY+d).b`, `11010101 dddddddd 01011bbb`: R262, R60. -/
def execLdCFAtIYdb (d : Byte) (b : BitNo) (s : State) : Result := .next (ldCFSrcB (.iyd d) b s)

/-- `LD CF,(SP+d).b`, `11010110 dddddddd 01011bbb`: R262, R65. -/
def execLdCFAtSPdb (d : Byte) (b : BitNo) (s : State) : Result := .next (ldCFSrcB (.spd d) b s)

/-- `LD CF,(HL+d).b`, `11010111 dddddddd 01011bbb`: R262, R60. -/
def execLdCFAtHLdb (d : Byte) (b : BitNo) (s : State) : Result := .next (ldCFSrcB (.hld d) b s)

/-- `LD CF,(PC+A).b`, `01001111 01011bbb`: R262, R66. -/
def execLdCFAtPCAb (b : BitNo) (s : State) : Result := .next (ldCFSrcB .pcA b s)

/-- `TEST (x).b` (long form, R95), `11100000 xxxxxxxx 01011bbb`: R264, R62. -/
def execTestAtXbLong (x : Byte) (b : BitNo) (s : State) : Result := .next (ldCFSrcB (.x x) b s)

/-- `TEST (vw).b`, `11100001 wwwwwwww vvvvvvvv 01011bbb`: R264, R67. -/
def execTestAtVWb (addr : Word) (b : BitNo) (s : State) : Result := .next (ldCFSrcB (.vw addr) b s)

/-- `TEST (DE).b`, `11100010 01011bbb`: R264, R59. -/
def execTestAtDEb (b : BitNo) (s : State) : Result := .next (ldCFSrcB .de b s)

/-- `TEST (HL).b`, `11100011 01011bbb`: R264, R59. -/
def execTestAtHLb (b : BitNo) (s : State) : Result := .next (ldCFSrcB .hl b s)

/-- `TEST (IX).b`, `11100100 01011bbb`: R264, R59. -/
def execTestAtIXb (b : BitNo) (s : State) : Result := .next (ldCFSrcB .ix b s)

/-- `TEST (IY).b`, `11100101 01011bbb`: R264, R59. -/
def execTestAtIYb (b : BitNo) (s : State) : Result := .next (ldCFSrcB .iy b s)

/-- `TEST (+SP).b`, `11100110 01011bbb`: R264, R63. -/
def execTestAtIncSPb (b : BitNo) (s : State) : Result := .next (ldCFSrcB .incSP b s)

/-- `TEST (HL+C).b`, `11100111 01011bbb`: R264, R61. -/
def execTestAtHLCb (b : BitNo) (s : State) : Result := .next (ldCFSrcB .hlC b s)

/-- `TEST (IX+d).b`, `11010100 dddddddd 01011bbb`: R264, R60. -/
def execTestAtIXdb (d : Byte) (b : BitNo) (s : State) : Result := .next (ldCFSrcB (.ixd d) b s)

/-- `TEST (IY+d).b`, `11010101 dddddddd 01011bbb`: R264, R60. -/
def execTestAtIYdb (d : Byte) (b : BitNo) (s : State) : Result := .next (ldCFSrcB (.iyd d) b s)

/-- `TEST (SP+d).b`, `11010110 dddddddd 01011bbb`: R264, R65. -/
def execTestAtSPdb (d : Byte) (b : BitNo) (s : State) : Result := .next (ldCFSrcB (.spd d) b s)

/-- `TEST (HL+d).b`, `11010111 dddddddd 01011bbb`: R264, R60. -/
def execTestAtHLdb (d : Byte) (b : BitNo) (s : State) : Result := .next (ldCFSrcB (.hld d) b s)

/-- `TEST (PC+A).b`, `01001111 01011bbb`: R264, R66. -/
def execTestAtPCAb (b : BitNo) (s : State) : Result := .next (ldCFSrcB .pcA b s)

/-- `SET (x).b` (long form, R95), `11100000 xxxxxxxx 11000bbb`: R253, R62. -/
def execSetAtXbLong (x : Byte) (b : BitNo) (s : State) : Result := .next (bitSrcB .set (.x x) b s)

/-- `SET (vw).b`, `11100001 wwwwwwww vvvvvvvv 11000bbb`: R253, R67. -/
def execSetAtVWb (addr : Word) (b : BitNo) (s : State) : Result := .next (bitSrcB .set (.vw addr) b s)

/-- `SET (DE).b`, `11100010 11000bbb`: R253, R59. -/
def execSetAtDEb (b : BitNo) (s : State) : Result := .next (bitSrcB .set .de b s)

/-- `SET (HL).b`, `11100011 11000bbb`: R253, R59. -/
def execSetAtHLb (b : BitNo) (s : State) : Result := .next (bitSrcB .set .hl b s)

/-- `SET (IX).b`, `11100100 11000bbb`: R253, R59. -/
def execSetAtIXb (b : BitNo) (s : State) : Result := .next (bitSrcB .set .ix b s)

/-- `SET (IY).b`, `11100101 11000bbb`: R253, R59. -/
def execSetAtIYb (b : BitNo) (s : State) : Result := .next (bitSrcB .set .iy b s)

/-- `SET (+SP).b`, `11100110 11000bbb`: R253, R63. -/
def execSetAtIncSPb (b : BitNo) (s : State) : Result := .next (bitSrcB .set .incSP b s)

/-- `SET (HL+C).b`, `11100111 11000bbb`: R253, R61. -/
def execSetAtHLCb (b : BitNo) (s : State) : Result := .next (bitSrcB .set .hlC b s)

/-- `SET (IX+d).b`, `11010100 dddddddd 11000bbb`: R253, R60. -/
def execSetAtIXdb (d : Byte) (b : BitNo) (s : State) : Result := .next (bitSrcB .set (.ixd d) b s)

/-- `SET (IY+d).b`, `11010101 dddddddd 11000bbb`: R253, R60. -/
def execSetAtIYdb (d : Byte) (b : BitNo) (s : State) : Result := .next (bitSrcB .set (.iyd d) b s)

/-- `SET (SP+d).b`, `11010110 dddddddd 11000bbb`: R253, R65. -/
def execSetAtSPdb (d : Byte) (b : BitNo) (s : State) : Result := .next (bitSrcB .set (.spd d) b s)

/-- `SET (HL+d).b`, `11010111 dddddddd 11000bbb`: R253, R60. -/
def execSetAtHLdb (d : Byte) (b : BitNo) (s : State) : Result := .next (bitSrcB .set (.hld d) b s)

/-- `SET (PC+A).b`, `01001111 11000bbb`: R253, R66. -/
def execSetAtPCAb (b : BitNo) (s : State) : Result := .next (bitSrcB .set .pcA b s)

/-- `CLR (x).b` (long form, R95), `11100000 xxxxxxxx 11001bbb`: R257, R62. -/
def execClrAtXbLong (x : Byte) (b : BitNo) (s : State) : Result := .next (bitSrcB .clr (.x x) b s)

/-- `CLR (vw).b`, `11100001 wwwwwwww vvvvvvvv 11001bbb`: R257, R67. -/
def execClrAtVWb (addr : Word) (b : BitNo) (s : State) : Result := .next (bitSrcB .clr (.vw addr) b s)

/-- `CLR (DE).b`, `11100010 11001bbb`: R257, R59. -/
def execClrAtDEb (b : BitNo) (s : State) : Result := .next (bitSrcB .clr .de b s)

/-- `CLR (HL).b`, `11100011 11001bbb`: R257, R59. -/
def execClrAtHLb (b : BitNo) (s : State) : Result := .next (bitSrcB .clr .hl b s)

/-- `CLR (IX).b`, `11100100 11001bbb`: R257, R59. -/
def execClrAtIXb (b : BitNo) (s : State) : Result := .next (bitSrcB .clr .ix b s)

/-- `CLR (IY).b`, `11100101 11001bbb`: R257, R59. -/
def execClrAtIYb (b : BitNo) (s : State) : Result := .next (bitSrcB .clr .iy b s)

/-- `CLR (+SP).b`, `11100110 11001bbb`: R257, R63. -/
def execClrAtIncSPb (b : BitNo) (s : State) : Result := .next (bitSrcB .clr .incSP b s)

/-- `CLR (HL+C).b`, `11100111 11001bbb`: R257, R61. -/
def execClrAtHLCb (b : BitNo) (s : State) : Result := .next (bitSrcB .clr .hlC b s)

/-- `CLR (IX+d).b`, `11010100 dddddddd 11001bbb`: R257, R60. -/
def execClrAtIXdb (d : Byte) (b : BitNo) (s : State) : Result := .next (bitSrcB .clr (.ixd d) b s)

/-- `CLR (IY+d).b`, `11010101 dddddddd 11001bbb`: R257, R60. -/
def execClrAtIYdb (d : Byte) (b : BitNo) (s : State) : Result := .next (bitSrcB .clr (.iyd d) b s)

/-- `CLR (SP+d).b`, `11010110 dddddddd 11001bbb`: R257, R65. -/
def execClrAtSPdb (d : Byte) (b : BitNo) (s : State) : Result := .next (bitSrcB .clr (.spd d) b s)

/-- `CLR (HL+d).b`, `11010111 dddddddd 11001bbb`: R257, R60. -/
def execClrAtHLdb (d : Byte) (b : BitNo) (s : State) : Result := .next (bitSrcB .clr (.hld d) b s)

/-- `CLR (PC+A).b`, `01001111 11001bbb`: R257, R66. -/
def execClrAtPCAb (b : BitNo) (s : State) : Result := .next (bitSrcB .clr .pcA b s)

/-- `CPL (x).b`, `11100000 xxxxxxxx 11100bbb`: R271, R62. -/
def execCplAtXb (x : Byte) (b : BitNo) (s : State) : Result := .next (bitSrcB .cpl (.x x) b s)

/-- `CPL (vw).b`, `11100001 wwwwwwww vvvvvvvv 11100bbb`: R271, R67. -/
def execCplAtVWb (addr : Word) (b : BitNo) (s : State) : Result := .next (bitSrcB .cpl (.vw addr) b s)

/-- `CPL (DE).b`, `11100010 11100bbb`: R271, R59. -/
def execCplAtDEb (b : BitNo) (s : State) : Result := .next (bitSrcB .cpl .de b s)

/-- `CPL (HL).b`, `11100011 11100bbb`: R271, R59. -/
def execCplAtHLb (b : BitNo) (s : State) : Result := .next (bitSrcB .cpl .hl b s)

/-- `CPL (IX).b`, `11100100 11100bbb`: R271, R59. -/
def execCplAtIXb (b : BitNo) (s : State) : Result := .next (bitSrcB .cpl .ix b s)

/-- `CPL (IY).b`, `11100101 11100bbb`: R271, R59. -/
def execCplAtIYb (b : BitNo) (s : State) : Result := .next (bitSrcB .cpl .iy b s)

/-- `CPL (+SP).b`, `11100110 11100bbb`: R271, R63. -/
def execCplAtIncSPb (b : BitNo) (s : State) : Result := .next (bitSrcB .cpl .incSP b s)

/-- `CPL (HL+C).b`, `11100111 11100bbb`: R271, R61. -/
def execCplAtHLCb (b : BitNo) (s : State) : Result := .next (bitSrcB .cpl .hlC b s)

/-- `CPL (IX+d).b`, `11010100 dddddddd 11100bbb`: R271, R60. -/
def execCplAtIXdb (d : Byte) (b : BitNo) (s : State) : Result := .next (bitSrcB .cpl (.ixd d) b s)

/-- `CPL (IY+d).b`, `11010101 dddddddd 11100bbb`: R271, R60. -/
def execCplAtIYdb (d : Byte) (b : BitNo) (s : State) : Result := .next (bitSrcB .cpl (.iyd d) b s)

/-- `CPL (SP+d).b`, `11010110 dddddddd 11100bbb`: R271, R65. -/
def execCplAtSPdb (d : Byte) (b : BitNo) (s : State) : Result := .next (bitSrcB .cpl (.spd d) b s)

/-- `CPL (HL+d).b`, `11010111 dddddddd 11100bbb`: R271, R60. -/
def execCplAtHLdb (d : Byte) (b : BitNo) (s : State) : Result := .next (bitSrcB .cpl (.hld d) b s)

/-- `CPL (PC+A).b`, `01001111 11100bbb`: R271, R66. -/
def execCplAtPCAb (b : BitNo) (s : State) : Result := .next (bitSrcB .cpl .pcA b s)

/-- `LD (x).b,CF`, `11100000 xxxxxxxx 11101bbb`: R266, R62. -/
def execLdAtXbCF (x : Byte) (b : BitNo) (s : State) : Result := .next (ldSrcBCF (.x x) b s)

/-- `LD (vw).b,CF`, `11100001 wwwwwwww vvvvvvvv 11101bbb`: R266, R67. -/
def execLdAtVWbCF (addr : Word) (b : BitNo) (s : State) : Result := .next (ldSrcBCF (.vw addr) b s)

/-- `LD (DE).b,CF`, `11100010 11101bbb`: R266, R59. -/
def execLdAtDEbCF (b : BitNo) (s : State) : Result := .next (ldSrcBCF .de b s)

/-- `LD (HL).b,CF`, `11100011 11101bbb`: R266, R59. -/
def execLdAtHLbCF (b : BitNo) (s : State) : Result := .next (ldSrcBCF .hl b s)

/-- `LD (IX).b,CF`, `11100100 11101bbb`: R266, R59. -/
def execLdAtIXbCF (b : BitNo) (s : State) : Result := .next (ldSrcBCF .ix b s)

/-- `LD (IY).b,CF`, `11100101 11101bbb`: R266, R59. -/
def execLdAtIYbCF (b : BitNo) (s : State) : Result := .next (ldSrcBCF .iy b s)

/-- `LD (+SP).b,CF`, `11100110 11101bbb`: R266, R63. -/
def execLdAtIncSPbCF (b : BitNo) (s : State) : Result := .next (ldSrcBCF .incSP b s)

/-- `LD (HL+C).b,CF`, `11100111 11101bbb`: R266, R61. -/
def execLdAtHLCbCF (b : BitNo) (s : State) : Result := .next (ldSrcBCF .hlC b s)

/-- `LD (IX+d).b,CF`, `11010100 dddddddd 11101bbb`: R266, R60. -/
def execLdAtIXdbCF (d : Byte) (b : BitNo) (s : State) : Result := .next (ldSrcBCF (.ixd d) b s)

/-- `LD (IY+d).b,CF`, `11010101 dddddddd 11101bbb`: R266, R60. -/
def execLdAtIYdbCF (d : Byte) (b : BitNo) (s : State) : Result := .next (ldSrcBCF (.iyd d) b s)

/-- `LD (SP+d).b,CF`, `11010110 dddddddd 11101bbb`: R266, R65. -/
def execLdAtSPdbCF (d : Byte) (b : BitNo) (s : State) : Result := .next (ldSrcBCF (.spd d) b s)

/-- `LD (HL+d).b,CF`, `11010111 dddddddd 11101bbb`: R266, R60. -/
def execLdAtHLdbCF (d : Byte) (b : BitNo) (s : State) : Result := .next (ldSrcBCF (.hld d) b s)

/-- `LD (PC+A).b,CF`, `01001111 11101bbb`: R266, R66. -/
def execLdAtPCAbCF (b : BitNo) (s : State) : Result := .next (ldSrcBCF .pcA b s)

/-- `SET (x).A`, `11100000 xxxxxxxx 11110010`: R254, R62. -/
def execSetAtXbitA (x : Byte) (s : State) : Result := .next (bitSrcA .set (.x x) s)

/-- `SET (vw).A`, `11100001 wwwwwwww vvvvvvvv 11110010`: R254, R67. -/
def execSetAtVWbitA (addr : Word) (s : State) : Result := .next (bitSrcA .set (.vw addr) s)

/-- `SET (DE).A`, `11100010 11110010`: R254, R59. -/
def execSetAtDEbitA (s : State) : Result := .next (bitSrcA .set .de s)

/-- `SET (HL).A`, `11100011 11110010`: R254, R59. -/
def execSetAtHLbitA (s : State) : Result := .next (bitSrcA .set .hl s)

/-- `SET (IX).A`, `11100100 11110010`: R254, R59. -/
def execSetAtIXbitA (s : State) : Result := .next (bitSrcA .set .ix s)

/-- `SET (IY).A`, `11100101 11110010`: R254, R59. -/
def execSetAtIYbitA (s : State) : Result := .next (bitSrcA .set .iy s)

/-- `SET (+SP).A`, `11100110 11110010`: R254, R63. -/
def execSetAtIncSPbitA (s : State) : Result := .next (bitSrcA .set .incSP s)

/-- `SET (HL+C).A`, `11100111 11110010`: R254, R61. -/
def execSetAtHLCbitA (s : State) : Result := .next (bitSrcA .set .hlC s)

/-- `SET (IX+d).A`, `11010100 dddddddd 11110010`: R254, R60. -/
def execSetAtIXdbitA (d : Byte) (s : State) : Result := .next (bitSrcA .set (.ixd d) s)

/-- `SET (IY+d).A`, `11010101 dddddddd 11110010`: R254, R60. -/
def execSetAtIYdbitA (d : Byte) (s : State) : Result := .next (bitSrcA .set (.iyd d) s)

/-- `SET (SP+d).A`, `11010110 dddddddd 11110010`: R254, R65. -/
def execSetAtSPdbitA (d : Byte) (s : State) : Result := .next (bitSrcA .set (.spd d) s)

/-- `SET (HL+d).A`, `11010111 dddddddd 11110010`: R254, R60. -/
def execSetAtHLdbitA (d : Byte) (s : State) : Result := .next (bitSrcA .set (.hld d) s)

/-- `SET (PC+A).A`, `01001111 11110010`: R254, R66. -/
def execSetAtPCAbitA (s : State) : Result := .next (bitSrcA .set .pcA s)

/-- `LD (x).A,CF`, `11100000 xxxxxxxx 11110011`: R267, R62. -/
def execLdAtXbitACF (x : Byte) (s : State) : Result := .next (ldSrcACF (.x x) s)

/-- `LD (vw).A,CF`, `11100001 wwwwwwww vvvvvvvv 11110011`: R267, R67. -/
def execLdAtVWbitACF (addr : Word) (s : State) : Result := .next (ldSrcACF (.vw addr) s)

/-- `LD (DE).A,CF`, `11100010 11110011`: R267, R59. -/
def execLdAtDEbitACF (s : State) : Result := .next (ldSrcACF .de s)

/-- `LD (HL).A,CF`, `11100011 11110011`: R267, R59. -/
def execLdAtHLbitACF (s : State) : Result := .next (ldSrcACF .hl s)

/-- `LD (IX).A,CF`, `11100100 11110011`: R267, R59. -/
def execLdAtIXbitACF (s : State) : Result := .next (ldSrcACF .ix s)

/-- `LD (IY).A,CF`, `11100101 11110011`: R267, R59. -/
def execLdAtIYbitACF (s : State) : Result := .next (ldSrcACF .iy s)

/-- `LD (+SP).A,CF`, `11100110 11110011`: R267, R63. -/
def execLdAtIncSPbitACF (s : State) : Result := .next (ldSrcACF .incSP s)

/-- `LD (HL+C).A,CF`, `11100111 11110011`: R267, R61. -/
def execLdAtHLCbitACF (s : State) : Result := .next (ldSrcACF .hlC s)

/-- `LD (IX+d).A,CF`, `11010100 dddddddd 11110011`: R267, R60. -/
def execLdAtIXdbitACF (d : Byte) (s : State) : Result := .next (ldSrcACF (.ixd d) s)

/-- `LD (IY+d).A,CF`, `11010101 dddddddd 11110011`: R267, R60. -/
def execLdAtIYdbitACF (d : Byte) (s : State) : Result := .next (ldSrcACF (.iyd d) s)

/-- `LD (SP+d).A,CF`, `11010110 dddddddd 11110011`: R267, R65. -/
def execLdAtSPdbitACF (d : Byte) (s : State) : Result := .next (ldSrcACF (.spd d) s)

/-- `LD (HL+d).A,CF`, `11010111 dddddddd 11110011`: R267, R60. -/
def execLdAtHLdbitACF (d : Byte) (s : State) : Result := .next (ldSrcACF (.hld d) s)

/-- `LD (PC+A).A,CF`, `01001111 11110011`: R267, R66. -/
def execLdAtPCAbitACF (s : State) : Result := .next (ldSrcACF .pcA s)

/-- `CLR (x).A`, `11100000 xxxxxxxx 11111010`: R258, R62. -/
def execClrAtXbitA (x : Byte) (s : State) : Result := .next (bitSrcA .clr (.x x) s)

/-- `CLR (vw).A`, `11100001 wwwwwwww vvvvvvvv 11111010`: R258, R67. -/
def execClrAtVWbitA (addr : Word) (s : State) : Result := .next (bitSrcA .clr (.vw addr) s)

/-- `CLR (DE).A`, `11100010 11111010`: R258, R59. -/
def execClrAtDEbitA (s : State) : Result := .next (bitSrcA .clr .de s)

/-- `CLR (HL).A`, `11100011 11111010`: R258, R59. -/
def execClrAtHLbitA (s : State) : Result := .next (bitSrcA .clr .hl s)

/-- `CLR (IX).A`, `11100100 11111010`: R258, R59. -/
def execClrAtIXbitA (s : State) : Result := .next (bitSrcA .clr .ix s)

/-- `CLR (IY).A`, `11100101 11111010`: R258, R59. -/
def execClrAtIYbitA (s : State) : Result := .next (bitSrcA .clr .iy s)

/-- `CLR (+SP).A`, `11100110 11111010`: R258, R63. -/
def execClrAtIncSPbitA (s : State) : Result := .next (bitSrcA .clr .incSP s)

/-- `CLR (HL+C).A`, `11100111 11111010`: R258, R61. -/
def execClrAtHLCbitA (s : State) : Result := .next (bitSrcA .clr .hlC s)

/-- `CLR (IX+d).A`, `11010100 dddddddd 11111010`: R258, R60. -/
def execClrAtIXdbitA (d : Byte) (s : State) : Result := .next (bitSrcA .clr (.ixd d) s)

/-- `CLR (IY+d).A`, `11010101 dddddddd 11111010`: R258, R60. -/
def execClrAtIYdbitA (d : Byte) (s : State) : Result := .next (bitSrcA .clr (.iyd d) s)

/-- `CLR (SP+d).A`, `11010110 dddddddd 11111010`: R258, R65. -/
def execClrAtSPdbitA (d : Byte) (s : State) : Result := .next (bitSrcA .clr (.spd d) s)

/-- `CLR (HL+d).A`, `11010111 dddddddd 11111010`: R258, R60. -/
def execClrAtHLdbitA (d : Byte) (s : State) : Result := .next (bitSrcA .clr (.hld d) s)

/-- `CLR (PC+A).A`, `01001111 11111010`: R258, R66. -/
def execClrAtPCAbitA (s : State) : Result := .next (bitSrcA .clr .pcA s)

/-- `CPL (x).A`, `11100000 xxxxxxxx 11111011`: R272, R62. -/
def execCplAtXbitA (x : Byte) (s : State) : Result := .next (bitSrcA .cpl (.x x) s)

/-- `CPL (vw).A`, `11100001 wwwwwwww vvvvvvvv 11111011`: R272, R67. -/
def execCplAtVWbitA (addr : Word) (s : State) : Result := .next (bitSrcA .cpl (.vw addr) s)

/-- `CPL (DE).A`, `11100010 11111011`: R272, R59. -/
def execCplAtDEbitA (s : State) : Result := .next (bitSrcA .cpl .de s)

/-- `CPL (HL).A`, `11100011 11111011`: R272, R59. -/
def execCplAtHLbitA (s : State) : Result := .next (bitSrcA .cpl .hl s)

/-- `CPL (IX).A`, `11100100 11111011`: R272, R59. -/
def execCplAtIXbitA (s : State) : Result := .next (bitSrcA .cpl .ix s)

/-- `CPL (IY).A`, `11100101 11111011`: R272, R59. -/
def execCplAtIYbitA (s : State) : Result := .next (bitSrcA .cpl .iy s)

/-- `CPL (+SP).A`, `11100110 11111011`: R272, R63. -/
def execCplAtIncSPbitA (s : State) : Result := .next (bitSrcA .cpl .incSP s)

/-- `CPL (HL+C).A`, `11100111 11111011`: R272, R61. -/
def execCplAtHLCbitA (s : State) : Result := .next (bitSrcA .cpl .hlC s)

/-- `CPL (IX+d).A`, `11010100 dddddddd 11111011`: R272, R60. -/
def execCplAtIXdbitA (d : Byte) (s : State) : Result := .next (bitSrcA .cpl (.ixd d) s)

/-- `CPL (IY+d).A`, `11010101 dddddddd 11111011`: R272, R60. -/
def execCplAtIYdbitA (d : Byte) (s : State) : Result := .next (bitSrcA .cpl (.iyd d) s)

/-- `CPL (SP+d).A`, `11010110 dddddddd 11111011`: R272, R65. -/
def execCplAtSPdbitA (d : Byte) (s : State) : Result := .next (bitSrcA .cpl (.spd d) s)

/-- `CPL (HL+d).A`, `11010111 dddddddd 11111011`: R272, R60. -/
def execCplAtHLdbitA (d : Byte) (s : State) : Result := .next (bitSrcA .cpl (.hld d) s)

/-- `CPL (PC+A).A`, `01001111 11111011`: R272, R66. -/
def execCplAtPCAbitA (s : State) : Result := .next (bitSrcA .cpl .pcA s)

/-- `LD CF,(x).A`, `11100000 xxxxxxxx 11111100`: R263, R62. -/
def execLdCFAtXbitA (x : Byte) (s : State) : Result := .next (ldCFSrcA (.x x) s)

/-- `LD CF,(vw).A`, `11100001 wwwwwwww vvvvvvvv 11111100`: R263, R67. -/
def execLdCFAtVWbitA (addr : Word) (s : State) : Result := .next (ldCFSrcA (.vw addr) s)

/-- `LD CF,(DE).A`, `11100010 11111100`: R263, R59. -/
def execLdCFAtDEbitA (s : State) : Result := .next (ldCFSrcA .de s)

/-- `LD CF,(HL).A`, `11100011 11111100`: R263, R59. -/
def execLdCFAtHLbitA (s : State) : Result := .next (ldCFSrcA .hl s)

/-- `LD CF,(IX).A`, `11100100 11111100`: R263, R59. -/
def execLdCFAtIXbitA (s : State) : Result := .next (ldCFSrcA .ix s)

/-- `LD CF,(IY).A`, `11100101 11111100`: R263, R59. -/
def execLdCFAtIYbitA (s : State) : Result := .next (ldCFSrcA .iy s)

/-- `LD CF,(+SP).A`, `11100110 11111100`: R263, R63. -/
def execLdCFAtIncSPbitA (s : State) : Result := .next (ldCFSrcA .incSP s)

/-- `LD CF,(HL+C).A`, `11100111 11111100`: R263, R61. -/
def execLdCFAtHLCbitA (s : State) : Result := .next (ldCFSrcA .hlC s)

/-- `LD CF,(IX+d).A`, `11010100 dddddddd 11111100`: R263, R60. -/
def execLdCFAtIXdbitA (d : Byte) (s : State) : Result := .next (ldCFSrcA (.ixd d) s)

/-- `LD CF,(IY+d).A`, `11010101 dddddddd 11111100`: R263, R60. -/
def execLdCFAtIYdbitA (d : Byte) (s : State) : Result := .next (ldCFSrcA (.iyd d) s)

/-- `LD CF,(SP+d).A`, `11010110 dddddddd 11111100`: R263, R65. -/
def execLdCFAtSPdbitA (d : Byte) (s : State) : Result := .next (ldCFSrcA (.spd d) s)

/-- `LD CF,(HL+d).A`, `11010111 dddddddd 11111100`: R263, R60. -/
def execLdCFAtHLdbitA (d : Byte) (s : State) : Result := .next (ldCFSrcA (.hld d) s)

/-- `LD CF,(PC+A).A`, `01001111 11111100`: R263, R66. -/
def execLdCFAtPCAbitA (s : State) : Result := .next (ldCFSrcA .pcA s)

/-- `TEST (x).A`, `11100000 xxxxxxxx 11111100`: R264, R62. -/
def execTestAtXbitA (x : Byte) (s : State) : Result := .next (ldCFSrcA (.x x) s)

/-- `TEST (vw).A`, `11100001 wwwwwwww vvvvvvvv 11111100`: R264, R67. -/
def execTestAtVWbitA (addr : Word) (s : State) : Result := .next (ldCFSrcA (.vw addr) s)

/-- `TEST (DE).A`, `11100010 11111100`: R264, R59. -/
def execTestAtDEbitA (s : State) : Result := .next (ldCFSrcA .de s)

/-- `TEST (HL).A`, `11100011 11111100`: R264, R59. -/
def execTestAtHLbitA (s : State) : Result := .next (ldCFSrcA .hl s)

/-- `TEST (IX).A`, `11100100 11111100`: R264, R59. -/
def execTestAtIXbitA (s : State) : Result := .next (ldCFSrcA .ix s)

/-- `TEST (IY).A`, `11100101 11111100`: R264, R59. -/
def execTestAtIYbitA (s : State) : Result := .next (ldCFSrcA .iy s)

/-- `TEST (+SP).A`, `11100110 11111100`: R264, R63. -/
def execTestAtIncSPbitA (s : State) : Result := .next (ldCFSrcA .incSP s)

/-- `TEST (HL+C).A`, `11100111 11111100`: R264, R61. -/
def execTestAtHLCbitA (s : State) : Result := .next (ldCFSrcA .hlC s)

/-- `TEST (IX+d).A`, `11010100 dddddddd 11111100`: R264, R60. -/
def execTestAtIXdbitA (d : Byte) (s : State) : Result := .next (ldCFSrcA (.ixd d) s)

/-- `TEST (IY+d).A`, `11010101 dddddddd 11111100`: R264, R60. -/
def execTestAtIYdbitA (d : Byte) (s : State) : Result := .next (ldCFSrcA (.iyd d) s)

/-- `TEST (SP+d).A`, `11010110 dddddddd 11111100`: R264, R65. -/
def execTestAtSPdbitA (d : Byte) (s : State) : Result := .next (ldCFSrcA (.spd d) s)

/-- `TEST (HL+d).A`, `11010111 dddddddd 11111100`: R264, R60. -/
def execTestAtHLdbitA (d : Byte) (s : State) : Result := .next (ldCFSrcA (.hld d) s)

/-- `TEST (PC+A).A`, `01001111 11111100`: R264, R66. -/
def execTestAtPCAbitA (s : State) : Result := .next (ldCFSrcA .pcA s)

end Sys2Proof.Machine
end

