-- ==== Sys2Proof/Machine/CallReturn.lean ====
section
/-!
DEFINITION. Subroutine call, return, software interrupt, no-operation (spec 45_call_return_swi_nop.md). First
the operations, then one meaning for each row of the opcode table.
-/

namespace Sys2Proof.Machine

/-- The code address of entry `n` of the vector-call area (R70). -/
def vcallAddr (n : BitVec 4) : Word := Config.vcallBase + 2 * n.setWidth 16

/-- R321 `CALLV n`. -/
def callv (n : BitVec 4) (s : State) : State := (push16 s (s.pcPlus 1)).withPc (codeRead16 s (vcallAddr n))

/-- R322 `CALL mn`. -/
def callMN (mn : Word) (s : State) : State := (push16 s (s.pcPlus 3)).withPc mn

/-- R323 `CALL gg`: `gg` is read before the push (D24). -/
def callGG (gg : Reg16) (s : State) : State := (push16 s (s.pcPlus 2)).withPc (readR16 s gg)

/-- R325 `CALL (src)`, every source mode but `(+SP)`: the push comes first and the address is formed with
the decremented SP. -/
def callPushed (m : Src) (s : State) : State :=
  let s1 := push16 s (s.pcPlus (2 + srcExtra m))
  s1.withPc (memRead16 s1 (srcAddr m s1))

/-- R326 `CALL (+SP)`: the push and the read of the target word are interleaved. -/
def callIncSP (s : State) : State :=
  let next := s.pcPlus 2
  let s1 := memWrite8 s s.sp (loByte next)
  let lo := memRead8 s1 (s.sp + 1)
  let s2 := memWrite8 s1 (s.sp + 1) (hiByte next)
  let hi := memRead8 s2 (s.sp + 2)
  (s2.withSp (s.sp - 1)).withPc (wordOf hi lo)

/-- `CALL (src)` (R325, R326). -/
def callSrc (m : Src) (s : State) : State :=
  match m with
  | .incSP => callIncSP s
  | m => callPushed m s

/-- R328 `RET`. -/
def ret (s : State) : State := (s.withSp (s.sp + 2)).withPc (poppedWord s)

/-- R329 `RETI`. -/
def reti (s : State) : State := returnFromException s

/-- R330 `RETN`: the state change is that of `RETI`. -/
def retn (s : State) : State := returnFromException s

/-- R333 `SWI`: the exception entry (R352) with the address of the next instruction. -/
def swi (s : State) : State := enterException s (s.pcPlus 1) Config.swiVector

/-- R335 `NOP`. -/
def nop (s : State) : State := s.advance 1

/-! One meaning for each row of the opcode table. -/

/-- `NOP`, `00000000`: R335. -/
def execNop (s : State) : Result := .next (nop s)

/-- `CALLV n`, `0111nnnn`: R321. -/
def execCallvN (n : BitVec 4) (s : State) : Result := .next (callv n s)

/-- `RET`, `11111010`: R328. -/
def execRet (s : State) : Result := .next (ret s)

/-- `RETI`, `11111011`: R329. -/
def execReti (s : State) : Result := .next (reti s)

/-- `CALL mn`, `11111101 nnnnnnnn mmmmmmmm`: R322. -/
def execCallMN (mn : Word) (s : State) : Result := .next (callMN mn s)

/-- `SWI`, `11111111`: R333. -/
def execSwi (s : State) : Result := .next (swi s)

/-- `RETN`, `11101000 11111011`: R330. -/
def execRetn (s : State) : Result := .next (retn s)

/-- `CALL gg`, `11101ggg 11111101`: R323. -/
def execCallGG (gg : Reg16) (s : State) : Result := .next (callGG gg s)

/-- `CALL (x)`, `11100000 xxxxxxxx 11111101`: R325, R62. -/
def execCallAtX (x : Byte) (s : State) : Result := .next (callSrc (.x x) s)

/-- `CALL (vw)`, `11100001 wwwwwwww vvvvvvvv 11111101`: R325, R67. -/
def execCallAtVW (addr : Word) (s : State) : Result := .next (callSrc (.vw addr) s)

/-- `CALL (DE)`, `11100010 11111101`: R325, R59. -/
def execCallAtDE (s : State) : Result := .next (callSrc .de s)

/-- `CALL (HL)`, `11100011 11111101`: R325, R59. -/
def execCallAtHL (s : State) : Result := .next (callSrc .hl s)

/-- `CALL (IX)`, `11100100 11111101`: R325, R59. -/
def execCallAtIX (s : State) : Result := .next (callSrc .ix s)

/-- `CALL (IY)`, `11100101 11111101`: R325, R59. -/
def execCallAtIY (s : State) : Result := .next (callSrc .iy s)

/-- `CALL (+SP)`, `11100110 11111101`: R326, R63. -/
def execCallAtIncSP (s : State) : Result := .next (callSrc .incSP s)

/-- `CALL (HL+C)`, `11100111 11111101`: R325, R61. -/
def execCallAtHLC (s : State) : Result := .next (callSrc .hlC s)

/-- `CALL (IX+d)`, `11010100 dddddddd 11111101`: R325, R60. -/
def execCallAtIXd (d : Byte) (s : State) : Result := .next (callSrc (.ixd d) s)

/-- `CALL (IY+d)`, `11010101 dddddddd 11111101`: R325, R60. -/
def execCallAtIYd (d : Byte) (s : State) : Result := .next (callSrc (.iyd d) s)

/-- `CALL (SP+d)`, `11010110 dddddddd 11111101`: R325, R65. -/
def execCallAtSPd (d : Byte) (s : State) : Result := .next (callSrc (.spd d) s)

/-- `CALL (HL+d)`, `11010111 dddddddd 11111101`: R325, R60. -/
def execCallAtHLd (d : Byte) (s : State) : Result := .next (callSrc (.hld d) s)

/-- `CALL (PC+A)`, `01001111 11111101`: R325, R66. -/
def execCallAtPCA (s : State) : Result := .next (callSrc .pcA s)

end Sys2Proof.Machine
end

