-- ==== Sys2Proof/Machine/Jump.lean ====
section
/-!
DEFINITION. Jump instructions (spec 44_jump.md). Targets are code-area addresses modulo `2^16`. First the
operations, then one meaning for each row of the opcode table.
-/

namespace Sys2Proof.Machine

/-- A relative jump (R290, R291): to `base + offset` when taken, otherwise to `NxtOp`; `JF <- 1` either way. -/
def relJump (taken : Bool) (target : Word) (len : Nat) (s : State) : State :=
  (setJ s true).withPc (if taken then target else s.pcPlus len)

/-- R292 `JRS T,a` (`sense` true), R293 `JRS F,a` (`sense` false): a 1-byte instruction whose base is `$+2`. -/
def jrs (sense : Bool) (d : BitVec 5) (s : State) : State :=
  relJump (s.psw.jf == sense) (s.pcPlus 2 + sext5To16 d) 1 s

/-- R294 `JR cc,a`, 2-byte form. -/
def jrCC (c : Cond) (d : Byte) (s : State) : State := relJump (condHolds c s.psw) (s.pcPlus 2 + sext16 d) 2 s

/-- R295 `JR cc,a`, 3-byte form. -/
def jrCCLong (c : CondLong) (d : Byte) (s : State) : State :=
  relJump (condLongHolds c s.psw) (s.pcPlus 3 + sext16 d) 3 s

/-- R296 `JR a`. -/
def jrA (d : Byte) (s : State) : State := relJump true (s.pcPlus 2 + sext16 d) 2 s

/-- R297 `JP mn`. -/
def jpMN (mn : Word) (s : State) : State := s.withPc mn

/-- R298 `JP gg`. -/
def jpGG (gg : Reg16) (s : State) : State := s.withPc (readR16 s gg)

/-- R299 `JP (src)`: the word is read from the data area. -/
def jpSrc (m : Src) (s : State) : State :=
  let s1 := srcBegin m s
  s1.withPc (memRead16 s1 (srcAddr m s1))

/-! One meaning for each row of the opcode table. -/

/-- `JRS T,a`, `100ddddd`: R292. -/
def execJrsT (d : BitVec 5) (s : State) : Result := .next (jrs true d s)

/-- `JRS F,a`, `101ddddd`: R293. -/
def execJrsF (d : BitVec 5) (s : State) : Result := .next (jrs false d s)

/-- `JR Z,a`, `11011000 dddddddd`: R294. -/
def execJrZ (d : Byte) (s : State) : Result := .next (jrCC .z d s)

/-- `JR NZ,a`, `11011001 dddddddd`: R294. -/
def execJrNZ (d : Byte) (s : State) : Result := .next (jrCC .nz d s)

/-- `JR CS,a`, `11011010 dddddddd`: R294. -/
def execJrCS (d : Byte) (s : State) : Result := .next (jrCC .cs d s)

/-- `JR CC,a`, `11011011 dddddddd`: R294. -/
def execJrCC (d : Byte) (s : State) : Result := .next (jrCC .cc d s)

/-- `JR LE,a`, `11011100 dddddddd`: R294. -/
def execJrLE (d : Byte) (s : State) : Result := .next (jrCC .le d s)

/-- `JR GT,a`, `11011101 dddddddd`: R294. -/
def execJrGT (d : Byte) (s : State) : Result := .next (jrCC .gt d s)

/-- `JR T,a`, `11011110 dddddddd`: R294. -/
def execJrT (d : Byte) (s : State) : Result := .next (jrCC .t d s)

/-- `JR F,a`, `11011111 dddddddd`: R294. -/
def execJrF (d : Byte) (s : State) : Result := .next (jrCC .f d s)

/-- `JR a`, `11111100 dddddddd`: R296. -/
def execJrA (d : Byte) (s : State) : Result := .next (jrA d s)

/-- `JP mn`, `11111110 nnnnnnnn mmmmmmmm`: R297. -/
def execJpMN (mn : Word) (s : State) : Result := .next (jpMN mn s)

/-- `JR M,a`, `11101000 11010000 dddddddd`: R295. -/
def execJrM (d : Byte) (s : State) : Result := .next (jrCCLong .m d s)

/-- `JR P,a`, `11101000 11010001 dddddddd`: R295. -/
def execJrP (d : Byte) (s : State) : Result := .next (jrCCLong .p d s)

/-- `JR SLT,a`, `11101000 11010010 dddddddd`: R295. -/
def execJrSLT (d : Byte) (s : State) : Result := .next (jrCCLong .slt d s)

/-- `JR SGE,a`, `11101000 11010011 dddddddd`: R295. -/
def execJrSGE (d : Byte) (s : State) : Result := .next (jrCCLong .sge d s)

/-- `JR SLE,a`, `11101000 11010100 dddddddd`: R295. -/
def execJrSLE (d : Byte) (s : State) : Result := .next (jrCCLong .sle d s)

/-- `JR SGT,a`, `11101000 11010101 dddddddd`: R295. -/
def execJrSGT (d : Byte) (s : State) : Result := .next (jrCCLong .sgt d s)

/-- `JR VS,a`, `11101000 11010110 dddddddd`: R295. -/
def execJrVS (d : Byte) (s : State) : Result := .next (jrCCLong .vs d s)

/-- `JR VC,a`, `11101000 11010111 dddddddd`: R295. -/
def execJrVC (d : Byte) (s : State) : Result := .next (jrCCLong .vc d s)

/-- `JP gg`, `11101ggg 11111110`: R298. -/
def execJpGG (gg : Reg16) (s : State) : Result := .next (jpGG gg s)

/-- `JP (x)`, `11100000 xxxxxxxx 11111110`: R299, R62. -/
def execJpAtX (x : Byte) (s : State) : Result := .next (jpSrc (.x x) s)

/-- `JP (vw)`, `11100001 wwwwwwww vvvvvvvv 11111110`: R299, R67. -/
def execJpAtVW (addr : Word) (s : State) : Result := .next (jpSrc (.vw addr) s)

/-- `JP (DE)`, `11100010 11111110`: R299, R59. -/
def execJpAtDE (s : State) : Result := .next (jpSrc .de s)

/-- `JP (HL)`, `11100011 11111110`: R299, R59. -/
def execJpAtHL (s : State) : Result := .next (jpSrc .hl s)

/-- `JP (IX)`, `11100100 11111110`: R299, R59. -/
def execJpAtIX (s : State) : Result := .next (jpSrc .ix s)

/-- `JP (IY)`, `11100101 11111110`: R299, R59. -/
def execJpAtIY (s : State) : Result := .next (jpSrc .iy s)

/-- `JP (+SP)`, `11100110 11111110`: R299, R63. -/
def execJpAtIncSP (s : State) : Result := .next (jpSrc .incSP s)

/-- `JP (HL+C)`, `11100111 11111110`: R299, R61. -/
def execJpAtHLC (s : State) : Result := .next (jpSrc .hlC s)

/-- `JP (IX+d)`, `11010100 dddddddd 11111110`: R299, R60. -/
def execJpAtIXd (d : Byte) (s : State) : Result := .next (jpSrc (.ixd d) s)

/-- `JP (IY+d)`, `11010101 dddddddd 11111110`: R299, R60. -/
def execJpAtIYd (d : Byte) (s : State) : Result := .next (jpSrc (.iyd d) s)

/-- `JP (SP+d)`, `11010110 dddddddd 11111110`: R299, R65. -/
def execJpAtSPd (d : Byte) (s : State) : Result := .next (jpSrc (.spd d) s)

/-- `JP (HL+d)`, `11010111 dddddddd 11111110`: R299, R60. -/
def execJpAtHLd (d : Byte) (s : State) : Result := .next (jpSrc (.hld d) s)

/-- `JP (PC+A)`, `01001111 11111110`: R299, R66. -/
def execJpAtPCA (s : State) : Result := .next (jpSrc .pcA s)

end Sys2Proof.Machine
end

