-- ==== Sys2Proof/Machine/Shift.lean ====
section
/-!
DEFINITION. Shift, rotate and nibble instructions (spec 42_shift_rotate_nibble.md). First the operations, then
one meaning for each row of the opcode table.
-/

namespace Sys2Proof.Machine

/-- The result of an 8-bit shift or rotate by one bit (R231 to R234), `c` the carry before. -/
def shift8Result (op : Shift8) (v : Byte) (c : Bool) : Byte :=
  match op with
  | .shlc => v <<< 1
  | .shrc => v >>> 1
  | .rolc => setBit (v <<< 1) 0 c
  | .rorc => setBit (v >>> 1) 7 c

/-- The bit that leaves the register (R230). -/
def shift8Out (op : Shift8) (v : Byte) : Bool :=
  match op with
  | .shlc => bitOf v 7
  | .shrc => bitOf v 0
  | .rolc => bitOf v 7
  | .rorc => bitOf v 0

/-- R231 `SHLC g`, R232 `SHRC g`, R233 `ROLC g`, R234 `RORC g`: CF and JF are the bit shifted out. -/
def shift8 (op : Shift8) (g : Reg8) (s : State) : State :=
  let v := readR8 s g
  let res := shift8Result op v s.psw.cf
  (setJZC (writeR8 s g res) (shift8Out op v) (decide (res = 0)) (shift8Out op v)).advance 2

/-- The result of a 16-bit arithmetic shift by one bit (R235, R236). -/
def shift16Result (op : Shift16) (v : Word) : Word :=
  match op with
  | .shlca => v <<< 1
  | .shrca => v.sshiftRight 1

/-- The bit that leaves the register (R235, R236). -/
def shift16Out (op : Shift16) (v : Word) : Bool :=
  match op with
  | .shlca => v.getLsbD 15
  | .shrca => v.getLsbD 0

/-- VF of a 16-bit arithmetic shift: `SHLCA` sets it when the most significant bit changes, `SHRCA` clears it. -/
def shift16Overflow (op : Shift16) (v : Word) : Bool :=
  match op with
  | .shlca => (v <<< 1).msb != v.msb
  | .shrca => false

/-- R235 `SHLCA gg`, R236 `SHRCA gg`: HF is unchanged. -/
def shift16 (op : Shift16) (gg : Reg16) (s : State) : State :=
  let v := readR16 s gg
  let res := shift16Result op v
  ((writeR16 s gg res).withPsw
    { s.psw with cf := shift16Out op v, jf := shift16Out op v, zf := decide (res = 0), sf := res.msb,
                 vf := shift16Overflow op v }).advance 2

/-- The low and high nibble of a byte exchanged. -/
def swapNibbles (v : Byte) : Byte := (v <<< 4) ||| (v >>> 4)

/-- R237 `SWAP g`: ZF is not written. -/
def swap (g : Reg8) (s : State) : State := (setJ (writeR8 s g (swapNibbles (readR8 s g))) true).advance 2

/-- R238 `ROLD A,(src)`: `A[3:0] : mem` rotated left by four. -/
def rold (m : Src) (s : State) : State :=
  let s1 := srcBegin m s
  let a := srcAddr m s1
  let v := memRead8 s1 a
  let acc := readR8 s1 .a
  (setJ (memWrite8 (writeR8 s1 .a ((acc &&& 0xF0) ||| (v >>> 4))) a ((v <<< 4) ||| (acc &&& 0x0F))) true).advance
    (2 + srcExtra m)

/-- R239 `RORD A,(src)`: `A[3:0] : mem` rotated right by four. -/
def rord (m : Src) (s : State) : State :=
  let s1 := srcBegin m s
  let a := srcAddr m s1
  let v := memRead8 s1 a
  let acc := readR8 s1 .a
  (setJ (memWrite8 (writeR8 s1 .a ((acc &&& 0xF0) ||| (v &&& 0x0F))) a
    (((acc &&& 0x0F) <<< 4) ||| (v >>> 4))) true).advance (2 + srcExtra m)

/-! One meaning for each row of the opcode table. -/

/-- `SHLCA gg`, `11101ggg 11110000`: R235. -/
def execShlcaGG (gg : Reg16) (s : State) : Result := .next (shift16 .shlca gg s)

/-- `SHRCA gg`, `11101ggg 11110001`: R236. -/
def execShrcaGG (gg : Reg16) (s : State) : Result := .next (shift16 .shrca gg s)

/-- `SHLC g`, `11101ggg 11110100`: R231. -/
def execShlcG (g : Reg8) (s : State) : Result := .next (shift8 .shlc g s)

/-- `SHRC g`, `11101ggg 11110101`: R232. -/
def execShrcG (g : Reg8) (s : State) : Result := .next (shift8 .shrc g s)

/-- `ROLC g`, `11101ggg 11110110`: R233. -/
def execRolcG (g : Reg8) (s : State) : Result := .next (shift8 .rolc g s)

/-- `RORC g`, `11101ggg 11110111`: R234. -/
def execRorcG (g : Reg8) (s : State) : Result := .next (shift8 .rorc g s)

/-- `SWAP g`, `11101ggg 11111111`: R237. -/
def execSwapG (g : Reg8) (s : State) : Result := .next (swap g s)

/-- `ROLD A,(x)`, `11100000 xxxxxxxx 11110110`: R238, R62. -/
def execRoldAAtX (x : Byte) (s : State) : Result := .next (rold (.x x) s)

/-- `ROLD A,(vw)`, `11100001 wwwwwwww vvvvvvvv 11110110`: R238, R67. -/
def execRoldAAtVW (addr : Word) (s : State) : Result := .next (rold (.vw addr) s)

/-- `ROLD A,(DE)`, `11100010 11110110`: R238, R59. -/
def execRoldAAtDE (s : State) : Result := .next (rold .de s)

/-- `ROLD A,(HL)`, `11100011 11110110`: R238, R59. -/
def execRoldAAtHL (s : State) : Result := .next (rold .hl s)

/-- `ROLD A,(IX)`, `11100100 11110110`: R238, R59. -/
def execRoldAAtIX (s : State) : Result := .next (rold .ix s)

/-- `ROLD A,(IY)`, `11100101 11110110`: R238, R59. -/
def execRoldAAtIY (s : State) : Result := .next (rold .iy s)

/-- `ROLD A,(+SP)`, `11100110 11110110`: R238, R63. -/
def execRoldAAtIncSP (s : State) : Result := .next (rold .incSP s)

/-- `ROLD A,(HL+C)`, `11100111 11110110`: R238, R61. -/
def execRoldAAtHLC (s : State) : Result := .next (rold .hlC s)

/-- `ROLD A,(IX+d)`, `11010100 dddddddd 11110110`: R238, R60. -/
def execRoldAAtIXd (d : Byte) (s : State) : Result := .next (rold (.ixd d) s)

/-- `ROLD A,(IY+d)`, `11010101 dddddddd 11110110`: R238, R60. -/
def execRoldAAtIYd (d : Byte) (s : State) : Result := .next (rold (.iyd d) s)

/-- `ROLD A,(SP+d)`, `11010110 dddddddd 11110110`: R238, R65. -/
def execRoldAAtSPd (d : Byte) (s : State) : Result := .next (rold (.spd d) s)

/-- `ROLD A,(HL+d)`, `11010111 dddddddd 11110110`: R238, R60. -/
def execRoldAAtHLd (d : Byte) (s : State) : Result := .next (rold (.hld d) s)

/-- `ROLD A,(PC+A)`, `01001111 11110110`: R238, R66. -/
def execRoldAAtPCA (s : State) : Result := .next (rold .pcA s)

/-- `RORD A,(x)`, `11100000 xxxxxxxx 11110111`: R239, R62. -/
def execRordAAtX (x : Byte) (s : State) : Result := .next (rord (.x x) s)

/-- `RORD A,(vw)`, `11100001 wwwwwwww vvvvvvvv 11110111`: R239, R67. -/
def execRordAAtVW (addr : Word) (s : State) : Result := .next (rord (.vw addr) s)

/-- `RORD A,(DE)`, `11100010 11110111`: R239, R59. -/
def execRordAAtDE (s : State) : Result := .next (rord .de s)

/-- `RORD A,(HL)`, `11100011 11110111`: R239, R59. -/
def execRordAAtHL (s : State) : Result := .next (rord .hl s)

/-- `RORD A,(IX)`, `11100100 11110111`: R239, R59. -/
def execRordAAtIX (s : State) : Result := .next (rord .ix s)

/-- `RORD A,(IY)`, `11100101 11110111`: R239, R59. -/
def execRordAAtIY (s : State) : Result := .next (rord .iy s)

/-- `RORD A,(+SP)`, `11100110 11110111`: R239, R63. -/
def execRordAAtIncSP (s : State) : Result := .next (rord .incSP s)

/-- `RORD A,(HL+C)`, `11100111 11110111`: R239, R61. -/
def execRordAAtHLC (s : State) : Result := .next (rord .hlC s)

/-- `RORD A,(IX+d)`, `11010100 dddddddd 11110111`: R239, R60. -/
def execRordAAtIXd (d : Byte) (s : State) : Result := .next (rord (.ixd d) s)

/-- `RORD A,(IY+d)`, `11010101 dddddddd 11110111`: R239, R60. -/
def execRordAAtIYd (d : Byte) (s : State) : Result := .next (rord (.iyd d) s)

/-- `RORD A,(SP+d)`, `11010110 dddddddd 11110111`: R239, R65. -/
def execRordAAtSPd (d : Byte) (s : State) : Result := .next (rord (.spd d) s)

/-- `RORD A,(HL+d)`, `11010111 dddddddd 11110111`: R239, R60. -/
def execRordAAtHLd (d : Byte) (s : State) : Result := .next (rord (.hld d) s)

/-- `RORD A,(PC+A)`, `01001111 11110111`: R239, R66. -/
def execRordAAtPCA (s : State) : Result := .next (rord .pcA s)

end Sys2Proof.Machine
end

