-- ==== Sys2Proof/Machine/Transfer.lean ====
section
/-!
DEFINITION. Transfer and exchange instructions (spec 40_transfer_exchange.md): `LD`, `LDW`, `PUSH`, `POP`,
`XCH`. First the operation of each operand form, then one meaning for each row of the opcode table.
-/

namespace Sys2Proof.Machine

/-! Register to register -/

/-- R121 `LD A,r`. -/
def ldAR (r : Reg8) (s : State) : State :=
  (setLoadFlags (writeR8 s .a (readR8 s r)) (readR8 s r)).advance 1

/-- R122 `LD r,A`. -/
def ldRA (r : Reg8) (s : State) : State :=
  (setLoadFlags (writeR8 s r (readR8 s .a)) (readR8 s .a)).advance 1

/-- R123 `LD r,g`. -/
def ldRG (r g : Reg8) (s : State) : State :=
  (setLoadFlags (writeR8 s r (readR8 s g)) (readR8 s g)).advance 2

/-- R124 `LD rr,gg`. -/
def ldRRGG (rr gg : Reg16) (s : State) : State :=
  (setJ (writeR16 s rr (readR16 s gg)) true).advance 2

/-! Memory to register -/

/-- R125 `LD A,(x)`. -/
def ldAX (x : Byte) (s : State) : State :=
  let v := memRead8 s (zext16 x)
  (setLoadFlags (writeR8 s .a v) v).advance 2

/-- R126 `LD A,(HL)`. -/
def ldAHL (s : State) : State :=
  let v := memRead8 s (readR16 s .hl)
  (setLoadFlags (writeR8 s .a v) v).advance 1

/-- R127 `LD r,(src)`. -/
def ldRSrc (r : Reg8) (m : Src) (s : State) : State :=
  let s1 := srcBegin m s
  let v := memRead8 s1 (srcAddr m s1)
  (setLoadFlags (writeR8 s1 r v) v).advance (2 + srcExtra m)

/-- R128 `LD rr,(src)`. -/
def ldRRSrc (rr : Reg16) (m : Src) (s : State) : State :=
  let s1 := srcBegin m s
  (setJ (writeR16 s1 rr (memRead16 s1 (srcAddr m s1))) true).advance (2 + srcExtra m)

/-! Register to memory -/

/-- R129 `LD (x),A`. -/
def ldXA (x : Byte) (s : State) : State := (setJ (memWrite8 s (zext16 x) (readR8 s .a)) true).advance 2

/-- R130 `LD (HL),A`. -/
def ldHLA (s : State) : State := (setJ (memWrite8 s (readR16 s .hl) (readR8 s .a)) true).advance 1

/-- R135 `LD (dst),r`. -/
def ldDstR (m : Dst) (r : Reg8) (s : State) : State :=
  (dstEnd m (setJ (memWrite8 s (dstAddr m s) (readR8 s r)) true)).advance (2 + dstExtra m)

/-- R136 `LD (dst),rr`, R137 `LD (SP-),rr`. -/
def ldDstRR (m : Dst) (rr : Reg16) (s : State) : State :=
  (dstEnd m (setJ (memWrite16 s (dstAddr m s) (readR16 s rr)) true)).advance (2 + dstExtra m)

/-! Immediates -/

/-- R133 `LD r,n`: ZF is not changed. -/
def ldRN (r : Reg8) (n : Byte) (s : State) : State := (setJ (writeR8 s r n) true).advance 2

/-- R134 `LD rr,mn`. -/
def ldRRMN (rr : Reg16) (mn : Word) (s : State) : State := (setJ (writeR16 s rr mn) true).advance 3

/-- R139 `LD (x),n`. -/
def ldXN (x n : Byte) (s : State) : State := (setJ (memWrite8 s (zext16 x) n) true).advance 3

/-- R140 `LD (HL),n`. -/
def ldHLN (n : Byte) (s : State) : State := (setJ (memWrite8 s (readR16 s .hl) n) true).advance 2

/-- R141 `LD (dst),n`. -/
def ldDstN (m : Dst) (n : Byte) (s : State) : State :=
  (dstEnd m (setJ (memWrite8 s (dstAddr m s) n) true)).advance (3 + dstExtra m)

/-- R142 `LDW (x),mn`. -/
def ldwXMN (x : Byte) (mn : Word) (s : State) : State := (setJ (memWrite16 s (zext16 x) mn) true).advance 4

/-- R143 `LDW (HL),mn`. -/
def ldwHLMN (mn : Word) (s : State) : State := (setJ (memWrite16 s (readR16 s .hl) mn) true).advance 3

/-! Stack -/

/-- R144 `PUSH rr`. -/
def pushPair (p : Pair) (s : State) : State := (push16 s (readR16 s (pairReg p))).advance 1

/-- R145 `POP rr`. -/
def popPair (p : Pair) (s : State) : State :=
  (writeR16 (s.withSp (s.sp + 2)) (pairReg p) (poppedWord s)).advance 1

/-- R146 `PUSH gg`. -/
def pushIndex (g : IndexReg) (s : State) : State := (push16 s (readR16 s (indexReg g))).advance 2

/-- R147 `POP gg`. -/
def popIndex (g : IndexReg) (s : State) : State :=
  (writeR16 (s.withSp (s.sp + 2)) (indexReg g) (poppedWord s)).advance 2

/-- R148 `PUSH PSW`: bit 0 of the stored byte is a free value (D19, log entry 5). -/
def pushPSW (s : State) : State :=
  ((memWrite8 (drawn s) s.sp (pswByte s.psw (freeBit s))).withSp (s.sp - 1)).advance 2

/-- R149 `POP PSW`: bit 0 is ignored, IMF is not changed. -/
def popPSW (s : State) : State :=
  ((s.withSp (s.sp + 1)).withPsw (pswOfByte (memRead8 s (s.sp + 1)))).advance 2

/-- R150 `LD PSW,n`: bit 0 of `n` is ignored, IMF is not changed. -/
def ldPSW (n : Byte) (s : State) : State := (s.withPsw (pswOfByte n)).advance 3

/-- R151 `LD RBS,0`, `LD RBS,1`: no flag changes. -/
def ldRBS (n : Bool) (s : State) : State := (s.withPsw { s.psw with rbs := n }).advance 2

/-! Stack pointer adjust -/

/-- R152 `LD SP,SP+d`, `d` unsigned (D9). -/
def ldSPAdd (d : Byte) (s : State) : State := (setJ (s.withSp (s.sp + zext16 d)) true).advance 2

/-- R153 `LD SP,SP-d`, `d` unsigned (D9). -/
def ldSPSub (d : Byte) (s : State) : State := (setJ (s.withSp (s.sp - zext16 d)) true).advance 2

/-! Exchange -/

/-- R154 `XCH r,g`: ZF from `g` before the exchange. -/
def xchRG (r g : Reg8) (s : State) : State :=
  (setLoadFlags (writeR8 (writeR8 s r (readR8 s g)) g (readR8 s r)) (readR8 s g)).advance 2

/-- R155 `XCH rr,gg`. -/
def xchRRGG (rr gg : Reg16) (s : State) : State :=
  (setJ (writeR16 (writeR16 s rr (readR16 s gg)) gg (readR16 s rr)) true).advance 2

/-- R156 `XCH r,(src)`: one read, then one write, of the same byte. -/
def xchRSrc (r : Reg8) (m : Src) (s : State) : State :=
  let s1 := srcBegin m s
  let a := srcAddr m s1
  let v := memRead8 s1 a
  (setLoadFlags (writeR8 (memWrite8 s1 a (readR8 s1 r)) r v) v).advance (2 + srcExtra m)

/-- R157 `XCH rr,(src)`. -/
def xchRRSrc (rr : Reg16) (m : Src) (s : State) : State :=
  let s1 := srcBegin m s
  let a := srcAddr m s1
  (setJ (writeR16 (memWrite16 s1 a (readR16 s1 rr)) rr (memRead16 s1 a)) true).advance (2 + srcExtra m)

/-! One meaning for each row of the opcode table. -/

/-- `LDW (x),mn`, `00001000 xxxxxxxx nnnnnnnn mmmmmmmm`: R142. -/
def execLdwAtXMN (x : Byte) (mn : Word) (s : State) : Result := .next (ldwXMN x mn s)

/-- `LDW (HL),mn`, `00001001 nnnnnnnn mmmmmmmm`: R143. -/
def execLdwAtHLMN (mn : Word) (s : State) : Result := .next (ldwHLMN mn s)

/-- `LD (x),n`, `00001010 xxxxxxxx nnnnnnnn`: R139. -/
def execLdAtXN (x : Byte) (n : Byte) (s : State) : Result := .next (ldXN x n s)

/-- `LD (HL),n`, `00001011 nnnnnnnn`: R140. -/
def execLdAtHLN (n : Byte) (s : State) : Result := .next (ldHLN n s)

/-- `LD A,(x)`, `00001100 xxxxxxxx`: R125. -/
def execLdAAtX (x : Byte) (s : State) : Result := .next (ldAX x s)

/-- `LD A,(HL)`, `00001101`: R126. -/
def execLdAAtHL (s : State) : Result := .next (ldAHL s)

/-- `LD (x),A`, `00001110 xxxxxxxx`: R129. -/
def execLdAtXA (x : Byte) (s : State) : Result := .next (ldXA x s)

/-- `LD (HL),A`, `00001111`: R130. -/
def execLdAtHLA (s : State) : Result := .next (ldHLA s)

/-- `LD A,r`, `00010rrr`: R121. -/
def execLdAR (r : Reg8) (s : State) : Result := .next (ldAR r s)

/-- `LD r,n`, `00011rrr nnnnnnnn`: R133. -/
def execLdRN (r : Reg8) (n : Byte) (s : State) : Result := .next (ldRN r n s)

/-- `LD SP,SP+d`, `00110111 dddddddd`: R152. -/
def execLdSPAddD (d : Byte) (s : State) : Result := .next (ldSPAdd d s)

/-- `LD SP,SP-d`, `00111111 dddddddd`: R153. -/
def execLdSPSubD (d : Byte) (s : State) : Result := .next (ldSPSub d s)

/-- `LD r,A`, `01000rrr`: R122. -/
def execLdRA (r : Reg8) (s : State) : Result := .next (ldRA r s)

/-- `LD rr,mn`, `01001rrr nnnnnnnn mmmmmmmm`: R134. -/
def execLdRRMN (rr : Reg16) (mn : Word) (s : State) : Result := .next (ldRRMN rr mn s)

/-- `PUSH rr`, `010100rr`: R144. -/
def execPushRR (p : Pair) (s : State) : Result := .next (pushPair p s)

/-- `POP rr`, `110100rr`: R145. -/
def execPopRR (p : Pair) (s : State) : Result := .next (popPair p s)

/-- `LD RBS,0`, `11111001 00000000`: R151. -/
def execLdRBS0 (s : State) : Result := .next (ldRBS false s)

/-- `LD RBS,1`, `11111001 00000010`: R151. -/
def execLdRBS1 (s : State) : Result := .next (ldRBS true s)

/-- `LD r,g`, `11101ggg 01000rrr`: R123. -/
def execLdRG (r : Reg8) (g : Reg8) (s : State) : Result := .next (ldRG r g s)

/-- `LD rr,gg`, `11101ggg 01001rrr`: R124. -/
def execLdRRGG (rr : Reg16) (gg : Reg16) (s : State) : Result := .next (ldRRGG rr gg s)

/-- `XCH r,g`, `11101ggg 01110rrr`: R154. -/
def execXchRG (r : Reg8) (g : Reg8) (s : State) : Result := .next (xchRG r g s)

/-- `XCH rr,gg`, `11101ggg 01111rrr`: R155. -/
def execXchRRGG (rr : Reg16) (gg : Reg16) (s : State) : Result := .next (xchRRGG rr gg s)

/-- `PUSH IX`, `11101100 11011000`: R146. -/
def execPushIX (s : State) : Result := .next (pushIndex .ix s)

/-- `PUSH IY`, `11101101 11011000`: R146. -/
def execPushIY (s : State) : Result := .next (pushIndex .iy s)

/-- `POP IX`, `11101100 11011001`: R147. -/
def execPopIX (s : State) : Result := .next (popIndex .ix s)

/-- `POP IY`, `11101101 11011001`: R147. -/
def execPopIY (s : State) : Result := .next (popIndex .iy s)

/-- `PUSH PSW`, `11101000 11011100`: R148. -/
def execPushPSW (s : State) : Result := .next (pushPSW s)

/-- `POP PSW`, `11101000 11011101`: R149. -/
def execPopPSW (s : State) : Result := .next (popPSW s)

/-- `LD PSW,n`, `11101000 11011110 nnnnnnnn`: R150. -/
def execLdPSWN (n : Byte) (s : State) : Result := .next (ldPSW n s)

/-- `LD r,(x)`, `11100000 xxxxxxxx 01000rrr`: R127, R62. -/
def execLdRAtX (r : Reg8) (x : Byte) (s : State) : Result := .next (ldRSrc r (.x x) s)

/-- `LD r,(vw)`, `11100001 wwwwwwww vvvvvvvv 01000rrr`: R127, R67. -/
def execLdRAtVW (r : Reg8) (addr : Word) (s : State) : Result := .next (ldRSrc r (.vw addr) s)

/-- `LD r,(DE)`, `11100010 01000rrr`: R127, R59. -/
def execLdRAtDE (r : Reg8) (s : State) : Result := .next (ldRSrc r .de s)

/-- `LD r,(HL)`, `11100011 01000rrr`: R127, R59. -/
def execLdRAtHL (r : Reg8) (s : State) : Result := .next (ldRSrc r .hl s)

/-- `LD r,(IX)`, `11100100 01000rrr`: R127, R59. -/
def execLdRAtIX (r : Reg8) (s : State) : Result := .next (ldRSrc r .ix s)

/-- `LD r,(IY)`, `11100101 01000rrr`: R127, R59. -/
def execLdRAtIY (r : Reg8) (s : State) : Result := .next (ldRSrc r .iy s)

/-- `LD r,(+SP)`, `11100110 01000rrr`: R127, R63. -/
def execLdRAtIncSP (r : Reg8) (s : State) : Result := .next (ldRSrc r .incSP s)

/-- `LD r,(HL+C)`, `11100111 01000rrr`: R127, R61. -/
def execLdRAtHLC (r : Reg8) (s : State) : Result := .next (ldRSrc r .hlC s)

/-- `LD r,(IX+d)`, `11010100 dddddddd 01000rrr`: R127, R60. -/
def execLdRAtIXd (r : Reg8) (d : Byte) (s : State) : Result := .next (ldRSrc r (.ixd d) s)

/-- `LD r,(IY+d)`, `11010101 dddddddd 01000rrr`: R127, R60. -/
def execLdRAtIYd (r : Reg8) (d : Byte) (s : State) : Result := .next (ldRSrc r (.iyd d) s)

/-- `LD r,(SP+d)`, `11010110 dddddddd 01000rrr`: R127, R65. -/
def execLdRAtSPd (r : Reg8) (d : Byte) (s : State) : Result := .next (ldRSrc r (.spd d) s)

/-- `LD r,(HL+d)`, `11010111 dddddddd 01000rrr`: R127, R60. -/
def execLdRAtHLd (r : Reg8) (d : Byte) (s : State) : Result := .next (ldRSrc r (.hld d) s)

/-- `LD r,(PC+A)`, `01001111 01000rrr`: R127, R66. -/
def execLdRAtPCA (r : Reg8) (s : State) : Result := .next (ldRSrc r .pcA s)

/-- `LD rr,(x)`, `11100000 xxxxxxxx 01001rrr`: R128, R62. -/
def execLdRRAtX (rr : Reg16) (x : Byte) (s : State) : Result := .next (ldRRSrc rr (.x x) s)

/-- `LD rr,(vw)`, `11100001 wwwwwwww vvvvvvvv 01001rrr`: R128, R67. -/
def execLdRRAtVW (rr : Reg16) (addr : Word) (s : State) : Result := .next (ldRRSrc rr (.vw addr) s)

/-- `LD rr,(DE)`, `11100010 01001rrr`: R128, R59. -/
def execLdRRAtDE (rr : Reg16) (s : State) : Result := .next (ldRRSrc rr .de s)

/-- `LD rr,(HL)`, `11100011 01001rrr`: R128, R59. -/
def execLdRRAtHL (rr : Reg16) (s : State) : Result := .next (ldRRSrc rr .hl s)

/-- `LD rr,(IX)`, `11100100 01001rrr`: R128, R59. -/
def execLdRRAtIX (rr : Reg16) (s : State) : Result := .next (ldRRSrc rr .ix s)

/-- `LD rr,(IY)`, `11100101 01001rrr`: R128, R59. -/
def execLdRRAtIY (rr : Reg16) (s : State) : Result := .next (ldRRSrc rr .iy s)

/-- `LD rr,(+SP)`, `11100110 01001rrr`: R128, R63. -/
def execLdRRAtIncSP (rr : Reg16) (s : State) : Result := .next (ldRRSrc rr .incSP s)

/-- `LD rr,(HL+C)`, `11100111 01001rrr`: R128, R61. -/
def execLdRRAtHLC (rr : Reg16) (s : State) : Result := .next (ldRRSrc rr .hlC s)

/-- `LD rr,(IX+d)`, `11010100 dddddddd 01001rrr`: R128, R60. -/
def execLdRRAtIXd (rr : Reg16) (d : Byte) (s : State) : Result := .next (ldRRSrc rr (.ixd d) s)

/-- `LD rr,(IY+d)`, `11010101 dddddddd 01001rrr`: R128, R60. -/
def execLdRRAtIYd (rr : Reg16) (d : Byte) (s : State) : Result := .next (ldRRSrc rr (.iyd d) s)

/-- `LD rr,(SP+d)`, `11010110 dddddddd 01001rrr`: R128, R65. -/
def execLdRRAtSPd (rr : Reg16) (d : Byte) (s : State) : Result := .next (ldRRSrc rr (.spd d) s)

/-- `LD rr,(HL+d)`, `11010111 dddddddd 01001rrr`: R128, R60. -/
def execLdRRAtHLd (rr : Reg16) (d : Byte) (s : State) : Result := .next (ldRRSrc rr (.hld d) s)

/-- `LD rr,(PC+A)`, `01001111 01001rrr`: R128, R66. -/
def execLdRRAtPCA (rr : Reg16) (s : State) : Result := .next (ldRRSrc rr .pcA s)

/-- `XCH r,(x)`, `11100000 xxxxxxxx 01110rrr`: R156, R62. -/
def execXchRAtX (r : Reg8) (x : Byte) (s : State) : Result := .next (xchRSrc r (.x x) s)

/-- `XCH r,(vw)`, `11100001 wwwwwwww vvvvvvvv 01110rrr`: R156, R67. -/
def execXchRAtVW (r : Reg8) (addr : Word) (s : State) : Result := .next (xchRSrc r (.vw addr) s)

/-- `XCH r,(DE)`, `11100010 01110rrr`: R156, R59. -/
def execXchRAtDE (r : Reg8) (s : State) : Result := .next (xchRSrc r .de s)

/-- `XCH r,(HL)`, `11100011 01110rrr`: R156, R59. -/
def execXchRAtHL (r : Reg8) (s : State) : Result := .next (xchRSrc r .hl s)

/-- `XCH r,(IX)`, `11100100 01110rrr`: R156, R59. -/
def execXchRAtIX (r : Reg8) (s : State) : Result := .next (xchRSrc r .ix s)

/-- `XCH r,(IY)`, `11100101 01110rrr`: R156, R59. -/
def execXchRAtIY (r : Reg8) (s : State) : Result := .next (xchRSrc r .iy s)

/-- `XCH r,(+SP)`, `11100110 01110rrr`: R156, R63. -/
def execXchRAtIncSP (r : Reg8) (s : State) : Result := .next (xchRSrc r .incSP s)

/-- `XCH r,(HL+C)`, `11100111 01110rrr`: R156, R61. -/
def execXchRAtHLC (r : Reg8) (s : State) : Result := .next (xchRSrc r .hlC s)

/-- `XCH r,(IX+d)`, `11010100 dddddddd 01110rrr`: R156, R60. -/
def execXchRAtIXd (r : Reg8) (d : Byte) (s : State) : Result := .next (xchRSrc r (.ixd d) s)

/-- `XCH r,(IY+d)`, `11010101 dddddddd 01110rrr`: R156, R60. -/
def execXchRAtIYd (r : Reg8) (d : Byte) (s : State) : Result := .next (xchRSrc r (.iyd d) s)

/-- `XCH r,(SP+d)`, `11010110 dddddddd 01110rrr`: R156, R65. -/
def execXchRAtSPd (r : Reg8) (d : Byte) (s : State) : Result := .next (xchRSrc r (.spd d) s)

/-- `XCH r,(HL+d)`, `11010111 dddddddd 01110rrr`: R156, R60. -/
def execXchRAtHLd (r : Reg8) (d : Byte) (s : State) : Result := .next (xchRSrc r (.hld d) s)

/-- `XCH r,(PC+A)`, `01001111 01110rrr`: R156, R66. -/
def execXchRAtPCA (r : Reg8) (s : State) : Result := .next (xchRSrc r .pcA s)

/-- `XCH rr,(x)`, `11100000 xxxxxxxx 11011rrr`: R157, R62. -/
def execXchRRAtX (rr : Reg16) (x : Byte) (s : State) : Result := .next (xchRRSrc rr (.x x) s)

/-- `XCH rr,(vw)`, `11100001 wwwwwwww vvvvvvvv 11011rrr`: R157, R67. -/
def execXchRRAtVW (rr : Reg16) (addr : Word) (s : State) : Result := .next (xchRRSrc rr (.vw addr) s)

/-- `XCH rr,(DE)`, `11100010 11011rrr`: R157, R59. -/
def execXchRRAtDE (rr : Reg16) (s : State) : Result := .next (xchRRSrc rr .de s)

/-- `XCH rr,(HL)`, `11100011 11011rrr`: R157, R59. -/
def execXchRRAtHL (rr : Reg16) (s : State) : Result := .next (xchRRSrc rr .hl s)

/-- `XCH rr,(IX)`, `11100100 11011rrr`: R157, R59. -/
def execXchRRAtIX (rr : Reg16) (s : State) : Result := .next (xchRRSrc rr .ix s)

/-- `XCH rr,(IY)`, `11100101 11011rrr`: R157, R59. -/
def execXchRRAtIY (rr : Reg16) (s : State) : Result := .next (xchRRSrc rr .iy s)

/-- `XCH rr,(+SP)`, `11100110 11011rrr`: R157, R63. -/
def execXchRRAtIncSP (rr : Reg16) (s : State) : Result := .next (xchRRSrc rr .incSP s)

/-- `XCH rr,(HL+C)`, `11100111 11011rrr`: R157, R61. -/
def execXchRRAtHLC (rr : Reg16) (s : State) : Result := .next (xchRRSrc rr .hlC s)

/-- `XCH rr,(IX+d)`, `11010100 dddddddd 11011rrr`: R157, R60. -/
def execXchRRAtIXd (rr : Reg16) (d : Byte) (s : State) : Result := .next (xchRRSrc rr (.ixd d) s)

/-- `XCH rr,(IY+d)`, `11010101 dddddddd 11011rrr`: R157, R60. -/
def execXchRRAtIYd (rr : Reg16) (d : Byte) (s : State) : Result := .next (xchRRSrc rr (.iyd d) s)

/-- `XCH rr,(SP+d)`, `11010110 dddddddd 11011rrr`: R157, R65. -/
def execXchRRAtSPd (rr : Reg16) (d : Byte) (s : State) : Result := .next (xchRRSrc rr (.spd d) s)

/-- `XCH rr,(HL+d)`, `11010111 dddddddd 11011rrr`: R157, R60. -/
def execXchRRAtHLd (rr : Reg16) (d : Byte) (s : State) : Result := .next (xchRRSrc rr (.hld d) s)

/-- `XCH rr,(PC+A)`, `01001111 11011rrr`: R157, R66. -/
def execXchRRAtPCA (rr : Reg16) (s : State) : Result := .next (xchRRSrc rr .pcA s)

/-- `LD (x),rr`, `11110000 xxxxxxxx 01101rrr`: R136, R62. -/
def execLdAtXRR (x : Byte) (rr : Reg16) (s : State) : Result := .next (ldDstRR (.x x) rr s)

/-- `LD (x),r`, `11110000 xxxxxxxx 01111rrr`: R135, R62. -/
def execLdAtXR (x : Byte) (r : Reg8) (s : State) : Result := .next (ldDstR (.x x) r s)

/-- `LD (x),n` (long form, R95), `11110000 xxxxxxxx 11111001 nnnnnnnn`: R141, R62. -/
def execLdAtXNLong (x : Byte) (n : Byte) (s : State) : Result := .next (ldDstN (.x x) n s)

/-- `LD (vw),rr`, `11110001 wwwwwwww vvvvvvvv 01101rrr`: R136, R67. -/
def execLdAtVWRR (addr : Word) (rr : Reg16) (s : State) : Result := .next (ldDstRR (.vw addr) rr s)

/-- `LD (vw),r`, `11110001 wwwwwwww vvvvvvvv 01111rrr`: R135, R67. -/
def execLdAtVWR (addr : Word) (r : Reg8) (s : State) : Result := .next (ldDstR (.vw addr) r s)

/-- `LD (vw),n`, `11110001 wwwwwwww vvvvvvvv 11111001 nnnnnnnn`: R141, R67. -/
def execLdAtVWN (addr : Word) (n : Byte) (s : State) : Result := .next (ldDstN (.vw addr) n s)

/-- `LD (DE),rr`, `11110010 01101rrr`: R136, R59. -/
def execLdAtDERR (rr : Reg16) (s : State) : Result := .next (ldDstRR .de rr s)

/-- `LD (DE),r`, `11110010 01111rrr`: R135, R59. -/
def execLdAtDER (r : Reg8) (s : State) : Result := .next (ldDstR .de r s)

/-- `LD (DE),n`, `11110010 11111001 nnnnnnnn`: R141, R59. -/
def execLdAtDEN (n : Byte) (s : State) : Result := .next (ldDstN .de n s)

/-- `LD (HL),rr`, `11110011 01101rrr`: R136, R59. -/
def execLdAtHLRR (rr : Reg16) (s : State) : Result := .next (ldDstRR .hl rr s)

/-- `LD (HL),r`, `11110011 01111rrr`: R135, R59. -/
def execLdAtHLR (r : Reg8) (s : State) : Result := .next (ldDstR .hl r s)

/-- `LD (HL),n` (long form, R95), `11110011 11111001 nnnnnnnn`: R141, R59. -/
def execLdAtHLNLong (n : Byte) (s : State) : Result := .next (ldDstN .hl n s)

/-- `LD (IX),rr`, `11110100 01101rrr`: R136, R59. -/
def execLdAtIXRR (rr : Reg16) (s : State) : Result := .next (ldDstRR .ix rr s)

/-- `LD (IX),r`, `11110100 01111rrr`: R135, R59. -/
def execLdAtIXR (r : Reg8) (s : State) : Result := .next (ldDstR .ix r s)

/-- `LD (IX),n`, `11110100 11111001 nnnnnnnn`: R141, R59. -/
def execLdAtIXN (n : Byte) (s : State) : Result := .next (ldDstN .ix n s)

/-- `LD (IY),rr`, `11110101 01101rrr`: R136, R59. -/
def execLdAtIYRR (rr : Reg16) (s : State) : Result := .next (ldDstRR .iy rr s)

/-- `LD (IY),r`, `11110101 01111rrr`: R135, R59. -/
def execLdAtIYR (r : Reg8) (s : State) : Result := .next (ldDstR .iy r s)

/-- `LD (IY),n`, `11110101 11111001 nnnnnnnn`: R141, R59. -/
def execLdAtIYN (n : Byte) (s : State) : Result := .next (ldDstN .iy n s)

/-- `LD (SP-),rr`, `11110110 01101rrr`: R137, R64. -/
def execLdAtSPDecRR (rr : Reg16) (s : State) : Result := .next (ldDstRR .spDec rr s)

/-- `LD (SP-),r`, `11110110 01111rrr`: R135, R64. -/
def execLdAtSPDecR (r : Reg8) (s : State) : Result := .next (ldDstR .spDec r s)

/-- `LD (SP-),n`, `11110110 11111001 nnnnnnnn`: R141, R64. -/
def execLdAtSPDecN (n : Byte) (s : State) : Result := .next (ldDstN .spDec n s)

/-- `LD (HL+C),rr`, `11110111 01101rrr`: R136, R61. -/
def execLdAtHLCRR (rr : Reg16) (s : State) : Result := .next (ldDstRR .hlC rr s)

/-- `LD (HL+C),r`, `11110111 01111rrr`: R135, R61. -/
def execLdAtHLCR (r : Reg8) (s : State) : Result := .next (ldDstR .hlC r s)

/-- `LD (HL+C),n`, `11110111 11111001 nnnnnnnn`: R141, R61. -/
def execLdAtHLCN (n : Byte) (s : State) : Result := .next (ldDstN .hlC n s)

/-- `LD (IX+d),rr`, `01010100 dddddddd 01101rrr`: R136, R60. -/
def execLdAtIXdRR (d : Byte) (rr : Reg16) (s : State) : Result := .next (ldDstRR (.ixd d) rr s)

/-- `LD (IX+d),r`, `01010100 dddddddd 01111rrr`: R135, R60. -/
def execLdAtIXdR (d : Byte) (r : Reg8) (s : State) : Result := .next (ldDstR (.ixd d) r s)

/-- `LD (IX+d),n`, `01010100 dddddddd 11111001 nnnnnnnn`: R141, R60. -/
def execLdAtIXdN (d : Byte) (n : Byte) (s : State) : Result := .next (ldDstN (.ixd d) n s)

/-- `LD (IY+d),rr`, `01010101 dddddddd 01101rrr`: R136, R60. -/
def execLdAtIYdRR (d : Byte) (rr : Reg16) (s : State) : Result := .next (ldDstRR (.iyd d) rr s)

/-- `LD (IY+d),r`, `01010101 dddddddd 01111rrr`: R135, R60. -/
def execLdAtIYdR (d : Byte) (r : Reg8) (s : State) : Result := .next (ldDstR (.iyd d) r s)

/-- `LD (IY+d),n`, `01010101 dddddddd 11111001 nnnnnnnn`: R141, R60. -/
def execLdAtIYdN (d : Byte) (n : Byte) (s : State) : Result := .next (ldDstN (.iyd d) n s)

/-- `LD (SP+d),rr`, `01010110 dddddddd 01101rrr`: R136, R65. -/
def execLdAtSPdRR (d : Byte) (rr : Reg16) (s : State) : Result := .next (ldDstRR (.spd d) rr s)

/-- `LD (SP+d),r`, `01010110 dddddddd 01111rrr`: R135, R65. -/
def execLdAtSPdR (d : Byte) (r : Reg8) (s : State) : Result := .next (ldDstR (.spd d) r s)

/-- `LD (SP+d),n`, `01010110 dddddddd 11111001 nnnnnnnn`: R141, R65. -/
def execLdAtSPdN (d : Byte) (n : Byte) (s : State) : Result := .next (ldDstN (.spd d) n s)

/-- `LD (HL+d),rr`, `01010111 dddddddd 01101rrr`: R136, R60. -/
def execLdAtHLdRR (d : Byte) (rr : Reg16) (s : State) : Result := .next (ldDstRR (.hld d) rr s)

/-- `LD (HL+d),r`, `01010111 dddddddd 01111rrr`: R135, R60. -/
def execLdAtHLdR (d : Byte) (r : Reg8) (s : State) : Result := .next (ldDstR (.hld d) r s)

/-- `LD (HL+d),n`, `01010111 dddddddd 11111001 nnnnnnnn`: R141, R60. -/
def execLdAtHLdN (d : Byte) (n : Byte) (s : State) : Result := .next (ldDstN (.hld d) n s)

end Sys2Proof.Machine
end

