-- ==== Sys2Proof/Machine/Dispatch.lean ====
section
/-!
DEFINITION. Execution of one instruction: one arm for each constructor of Instr, each one direct call of the
instruction's meaning.
-/

namespace Sys2Proof.Machine

def exec (i : Instr) (s : State) : Host.Outcome State Fault Refusal :=
  match i with
  | .nop => Sys2Proof.Machine.execNop s
  | .clrCF => Sys2Proof.Machine.execClrCF s
  | .setCF => Sys2Proof.Machine.execSetCF s
  | .cplCF => Sys2Proof.Machine.execCplCF s
  | .cmpAtXN x n => Sys2Proof.Machine.execCmpAtXN x n s
  | .ldwAtXMN x mn => Sys2Proof.Machine.execLdwAtXMN x mn s
  | .ldwAtHLMN mn => Sys2Proof.Machine.execLdwAtHLMN mn s
  | .ldAtXN x n => Sys2Proof.Machine.execLdAtXN x n s
  | .ldAtHLN n => Sys2Proof.Machine.execLdAtHLN n s
  | .ldAAtX x => Sys2Proof.Machine.execLdAAtX x s
  | .ldAAtHL => Sys2Proof.Machine.execLdAAtHL s
  | .ldAtXA x => Sys2Proof.Machine.execLdAtXA x s
  | .ldAtHLA => Sys2Proof.Machine.execLdAtHLA s
  | .ldAR r => Sys2Proof.Machine.execLdAR r s
  | .ldRN r n => Sys2Proof.Machine.execLdRN r n s
  | .incR r => Sys2Proof.Machine.execIncR r s
  | .decR r => Sys2Proof.Machine.execDecR r s
  | .incRR rr => Sys2Proof.Machine.execIncRR rr s
  | .ldSPAddD d => Sys2Proof.Machine.execLdSPAddD d s
  | .decRR rr => Sys2Proof.Machine.execDecRR rr s
  | .ldSPSubD d => Sys2Proof.Machine.execLdSPSubD d s
  | .ldRA r => Sys2Proof.Machine.execLdRA r s
  | .ldRRMN rr mn => Sys2Proof.Machine.execLdRRMN rr mn s
  | .pushRR p => Sys2Proof.Machine.execPushRR p s
  | .ldCFAtXb x b => Sys2Proof.Machine.execLdCFAtXb x b s
  | .testAtXb x b => Sys2Proof.Machine.execTestAtXb x b s
  | .addcAN n => Sys2Proof.Machine.execAddcAN n s
  | .addAN n => Sys2Proof.Machine.execAddAN n s
  | .subbAN n => Sys2Proof.Machine.execSubbAN n s
  | .subAN n => Sys2Proof.Machine.execSubAN n s
  | .andAN n => Sys2Proof.Machine.execAndAN n s
  | .xorAN n => Sys2Proof.Machine.execXorAN n s
  | .orAN n => Sys2Proof.Machine.execOrAN n s
  | .cmpAN n => Sys2Proof.Machine.execCmpAN n s
  | .callvN n => Sys2Proof.Machine.execCallvN n s
  | .jrsT d => Sys2Proof.Machine.execJrsT d s
  | .jrsF d => Sys2Proof.Machine.execJrsF d s
  | .setAtXb x b => Sys2Proof.Machine.execSetAtXb x b s
  | .ei => Sys2Proof.Machine.execEi s
  | .clrAtXb x b => Sys2Proof.Machine.execClrAtXb x b s
  | .di => Sys2Proof.Machine.execDi s
  | .popRR p => Sys2Proof.Machine.execPopRR p s
  | .jrZ d => Sys2Proof.Machine.execJrZ d s
  | .jrNZ d => Sys2Proof.Machine.execJrNZ d s
  | .jrCS d => Sys2Proof.Machine.execJrCS d s
  | .jrCC d => Sys2Proof.Machine.execJrCC d s
  | .jrLE d => Sys2Proof.Machine.execJrLE d s
  | .jrGT d => Sys2Proof.Machine.execJrGT d s
  | .jrT d => Sys2Proof.Machine.execJrT d s
  | .jrF d => Sys2Proof.Machine.execJrF d s
  | .ldRBS0 => Sys2Proof.Machine.execLdRBS0 s
  | .ldRBS1 => Sys2Proof.Machine.execLdRBS1 s
  | .ret => Sys2Proof.Machine.execRet s
  | .reti => Sys2Proof.Machine.execReti s
  | .jrA d => Sys2Proof.Machine.execJrA d s
  | .callMN mn => Sys2Proof.Machine.execCallMN mn s
  | .jpMN mn => Sys2Proof.Machine.execJpMN mn s
  | .swi => Sys2Proof.Machine.execSwi s
  | .addcRG r g => Sys2Proof.Machine.execAddcRG r g s
  | .addcGN g n => Sys2Proof.Machine.execAddcGN g n s
  | .addcGGMN gg mn => Sys2Proof.Machine.execAddcGGMN gg mn s
  | .addcRRGG rr gg => Sys2Proof.Machine.execAddcRRGG rr gg s
  | .addRG r g => Sys2Proof.Machine.execAddRG r g s
  | .addGN g n => Sys2Proof.Machine.execAddGN g n s
  | .addGGMN gg mn => Sys2Proof.Machine.execAddGGMN gg mn s
  | .addRRGG rr gg => Sys2Proof.Machine.execAddRRGG rr gg s
  | .subbRG r g => Sys2Proof.Machine.execSubbRG r g s
  | .subbGN g n => Sys2Proof.Machine.execSubbGN g n s
  | .subbGGMN gg mn => Sys2Proof.Machine.execSubbGGMN gg mn s
  | .subbRRGG rr gg => Sys2Proof.Machine.execSubbRRGG rr gg s
  | .subRG r g => Sys2Proof.Machine.execSubRG r g s
  | .subGN g n => Sys2Proof.Machine.execSubGN g n s
  | .subGGMN gg mn => Sys2Proof.Machine.execSubGGMN gg mn s
  | .subRRGG rr gg => Sys2Proof.Machine.execSubRRGG rr gg s
  | .andRG r g => Sys2Proof.Machine.execAndRG r g s
  | .andGN g n => Sys2Proof.Machine.execAndGN g n s
  | .andGGMN gg mn => Sys2Proof.Machine.execAndGGMN gg mn s
  | .andRRGG rr gg => Sys2Proof.Machine.execAndRRGG rr gg s
  | .xorRG r g => Sys2Proof.Machine.execXorRG r g s
  | .xorGN g n => Sys2Proof.Machine.execXorGN g n s
  | .xorGGMN gg mn => Sys2Proof.Machine.execXorGGMN gg mn s
  | .xorRRGG rr gg => Sys2Proof.Machine.execXorRRGG rr gg s
  | .orRG r g => Sys2Proof.Machine.execOrRG r g s
  | .orGN g n => Sys2Proof.Machine.execOrGN g n s
  | .orGGMN gg mn => Sys2Proof.Machine.execOrGGMN gg mn s
  | .orRRGG rr gg => Sys2Proof.Machine.execOrRRGG rr gg s
  | .cmpRG r g => Sys2Proof.Machine.execCmpRG r g s
  | .cmpGN g n => Sys2Proof.Machine.execCmpGN g n s
  | .cmpGGMN gg mn => Sys2Proof.Machine.execCmpGGMN gg mn s
  | .cmpRRGG rr gg => Sys2Proof.Machine.execCmpRRGG rr gg s
  | .ldRG r g => Sys2Proof.Machine.execLdRG r g s
  | .ldRRGG rr gg => Sys2Proof.Machine.execLdRRGG rr gg s
  | .xorCFGb g b => Sys2Proof.Machine.execXorCFGb g b s
  | .ldCFGb g b => Sys2Proof.Machine.execLdCFGb g b s
  | .testGb g b => Sys2Proof.Machine.execTestGb g b s
  | .xchRG r g => Sys2Proof.Machine.execXchRG r g s
  | .xchRRGG rr gg => Sys2Proof.Machine.execXchRRGG rr gg s
  | .setGb g b => Sys2Proof.Machine.execSetGb g b s
  | .clrGb g b => Sys2Proof.Machine.execClrGb g b s
  | .jrM d => Sys2Proof.Machine.execJrM d s
  | .jrP d => Sys2Proof.Machine.execJrP d s
  | .jrSLT d => Sys2Proof.Machine.execJrSLT d s
  | .jrSGE d => Sys2Proof.Machine.execJrSGE d s
  | .jrSLE d => Sys2Proof.Machine.execJrSLE d s
  | .jrSGT d => Sys2Proof.Machine.execJrSGT d s
  | .jrVS d => Sys2Proof.Machine.execJrVS d s
  | .jrVC d => Sys2Proof.Machine.execJrVC d s
  | .pushIX => Sys2Proof.Machine.execPushIX s
  | .pushIY => Sys2Proof.Machine.execPushIY s
  | .popIX => Sys2Proof.Machine.execPopIX s
  | .popIY => Sys2Proof.Machine.execPopIY s
  | .daaG g => Sys2Proof.Machine.execDaaG g s
  | .dasG g => Sys2Proof.Machine.execDasG g s
  | .pushPSW => Sys2Proof.Machine.execPushPSW s
  | .popPSW => Sys2Proof.Machine.execPopPSW s
  | .ldPSWN n => Sys2Proof.Machine.execLdPSWN n s
  | .cplGb g b => Sys2Proof.Machine.execCplGb g b s
  | .ldGbCF g b => Sys2Proof.Machine.execLdGbCF g b s
  | .shlcaGG gg => Sys2Proof.Machine.execShlcaGG gg s
  | .shrcaGG gg => Sys2Proof.Machine.execShrcaGG gg s
  | .mulWA => Sys2Proof.Machine.execMulWA s
  | .mulBC => Sys2Proof.Machine.execMulBC s
  | .mulDE => Sys2Proof.Machine.execMulDE s
  | .mulHL => Sys2Proof.Machine.execMulHL s
  | .divWAC => Sys2Proof.Machine.execDivWAC s
  | .divDEC => Sys2Proof.Machine.execDivDEC s
  | .divHLC => Sys2Proof.Machine.execDivHLC s
  | .shlcG g => Sys2Proof.Machine.execShlcG g s
  | .shrcG g => Sys2Proof.Machine.execShrcG g s
  | .rolcG g => Sys2Proof.Machine.execRolcG g s
  | .rorcG g => Sys2Proof.Machine.execRorcG g s
  | .negCSGG gg => Sys2Proof.Machine.execNegCSGG gg s
  | .retn => Sys2Proof.Machine.execRetn s
  | .callGG gg => Sys2Proof.Machine.execCallGG gg s
  | .jpGG gg => Sys2Proof.Machine.execJpGG gg s
  | .swapG g => Sys2Proof.Machine.execSwapG g s
  | .addcRAtX r x => Sys2Proof.Machine.execAddcRAtX r x s
  | .addcRAtVW r addr => Sys2Proof.Machine.execAddcRAtVW r addr s
  | .addcRAtDE r => Sys2Proof.Machine.execAddcRAtDE r s
  | .addcRAtHL r => Sys2Proof.Machine.execAddcRAtHL r s
  | .addcRAtIX r => Sys2Proof.Machine.execAddcRAtIX r s
  | .addcRAtIY r => Sys2Proof.Machine.execAddcRAtIY r s
  | .addcRAtIncSP r => Sys2Proof.Machine.execAddcRAtIncSP r s
  | .addcRAtHLC r => Sys2Proof.Machine.execAddcRAtHLC r s
  | .addcRAtIXd r d => Sys2Proof.Machine.execAddcRAtIXd r d s
  | .addcRAtIYd r d => Sys2Proof.Machine.execAddcRAtIYd r d s
  | .addcRAtSPd r d => Sys2Proof.Machine.execAddcRAtSPd r d s
  | .addcRAtHLd r d => Sys2Proof.Machine.execAddcRAtHLd r d s
  | .addcRAtPCA r => Sys2Proof.Machine.execAddcRAtPCA r s
  | .addcAtXN x n => Sys2Proof.Machine.execAddcAtXN x n s
  | .addcAtVWN addr n => Sys2Proof.Machine.execAddcAtVWN addr n s
  | .addcAtDEN n => Sys2Proof.Machine.execAddcAtDEN n s
  | .addcAtHLN n => Sys2Proof.Machine.execAddcAtHLN n s
  | .addcAtIXN n => Sys2Proof.Machine.execAddcAtIXN n s
  | .addcAtIYN n => Sys2Proof.Machine.execAddcAtIYN n s
  | .addcAtIncSPN n => Sys2Proof.Machine.execAddcAtIncSPN n s
  | .addcAtHLCN n => Sys2Proof.Machine.execAddcAtHLCN n s
  | .addcAtIXdN d n => Sys2Proof.Machine.execAddcAtIXdN d n s
  | .addcAtIYdN d n => Sys2Proof.Machine.execAddcAtIYdN d n s
  | .addcAtSPdN d n => Sys2Proof.Machine.execAddcAtSPdN d n s
  | .addcAtHLdN d n => Sys2Proof.Machine.execAddcAtHLdN d n s
  | .addcAtPCAN n => Sys2Proof.Machine.execAddcAtPCAN n s
  | .addcRRAtX rr x => Sys2Proof.Machine.execAddcRRAtX rr x s
  | .addcRRAtVW rr addr => Sys2Proof.Machine.execAddcRRAtVW rr addr s
  | .addcRRAtDE rr => Sys2Proof.Machine.execAddcRRAtDE rr s
  | .addcRRAtHL rr => Sys2Proof.Machine.execAddcRRAtHL rr s
  | .addcRRAtIX rr => Sys2Proof.Machine.execAddcRRAtIX rr s
  | .addcRRAtIY rr => Sys2Proof.Machine.execAddcRRAtIY rr s
  | .addcRRAtIncSP rr => Sys2Proof.Machine.execAddcRRAtIncSP rr s
  | .addcRRAtHLC rr => Sys2Proof.Machine.execAddcRRAtHLC rr s
  | .addcRRAtIXd rr d => Sys2Proof.Machine.execAddcRRAtIXd rr d s
  | .addcRRAtIYd rr d => Sys2Proof.Machine.execAddcRRAtIYd rr d s
  | .addcRRAtSPd rr d => Sys2Proof.Machine.execAddcRRAtSPd rr d s
  | .addcRRAtHLd rr d => Sys2Proof.Machine.execAddcRRAtHLd rr d s
  | .addcRRAtPCA rr => Sys2Proof.Machine.execAddcRRAtPCA rr s
  | .addRAtX r x => Sys2Proof.Machine.execAddRAtX r x s
  | .addRAtVW r addr => Sys2Proof.Machine.execAddRAtVW r addr s
  | .addRAtDE r => Sys2Proof.Machine.execAddRAtDE r s
  | .addRAtHL r => Sys2Proof.Machine.execAddRAtHL r s
  | .addRAtIX r => Sys2Proof.Machine.execAddRAtIX r s
  | .addRAtIY r => Sys2Proof.Machine.execAddRAtIY r s
  | .addRAtIncSP r => Sys2Proof.Machine.execAddRAtIncSP r s
  | .addRAtHLC r => Sys2Proof.Machine.execAddRAtHLC r s
  | .addRAtIXd r d => Sys2Proof.Machine.execAddRAtIXd r d s
  | .addRAtIYd r d => Sys2Proof.Machine.execAddRAtIYd r d s
  | .addRAtSPd r d => Sys2Proof.Machine.execAddRAtSPd r d s
  | .addRAtHLd r d => Sys2Proof.Machine.execAddRAtHLd r d s
  | .addRAtPCA r => Sys2Proof.Machine.execAddRAtPCA r s
  | .addAtXN x n => Sys2Proof.Machine.execAddAtXN x n s
  | .addAtVWN addr n => Sys2Proof.Machine.execAddAtVWN addr n s
  | .addAtDEN n => Sys2Proof.Machine.execAddAtDEN n s
  | .addAtHLN n => Sys2Proof.Machine.execAddAtHLN n s
  | .addAtIXN n => Sys2Proof.Machine.execAddAtIXN n s
  | .addAtIYN n => Sys2Proof.Machine.execAddAtIYN n s
  | .addAtIncSPN n => Sys2Proof.Machine.execAddAtIncSPN n s
  | .addAtHLCN n => Sys2Proof.Machine.execAddAtHLCN n s
  | .addAtIXdN d n => Sys2Proof.Machine.execAddAtIXdN d n s
  | .addAtIYdN d n => Sys2Proof.Machine.execAddAtIYdN d n s
  | .addAtSPdN d n => Sys2Proof.Machine.execAddAtSPdN d n s
  | .addAtHLdN d n => Sys2Proof.Machine.execAddAtHLdN d n s
  | .addAtPCAN n => Sys2Proof.Machine.execAddAtPCAN n s
  | .addRRAtX rr x => Sys2Proof.Machine.execAddRRAtX rr x s
  | .addRRAtVW rr addr => Sys2Proof.Machine.execAddRRAtVW rr addr s
  | .addRRAtDE rr => Sys2Proof.Machine.execAddRRAtDE rr s
  | .addRRAtHL rr => Sys2Proof.Machine.execAddRRAtHL rr s
  | .addRRAtIX rr => Sys2Proof.Machine.execAddRRAtIX rr s
  | .addRRAtIY rr => Sys2Proof.Machine.execAddRRAtIY rr s
  | .addRRAtIncSP rr => Sys2Proof.Machine.execAddRRAtIncSP rr s
  | .addRRAtHLC rr => Sys2Proof.Machine.execAddRRAtHLC rr s
  | .addRRAtIXd rr d => Sys2Proof.Machine.execAddRRAtIXd rr d s
  | .addRRAtIYd rr d => Sys2Proof.Machine.execAddRRAtIYd rr d s
  | .addRRAtSPd rr d => Sys2Proof.Machine.execAddRRAtSPd rr d s
  | .addRRAtHLd rr d => Sys2Proof.Machine.execAddRRAtHLd rr d s
  | .addRRAtPCA rr => Sys2Proof.Machine.execAddRRAtPCA rr s
  | .subbRAtX r x => Sys2Proof.Machine.execSubbRAtX r x s
  | .subbRAtVW r addr => Sys2Proof.Machine.execSubbRAtVW r addr s
  | .subbRAtDE r => Sys2Proof.Machine.execSubbRAtDE r s
  | .subbRAtHL r => Sys2Proof.Machine.execSubbRAtHL r s
  | .subbRAtIX r => Sys2Proof.Machine.execSubbRAtIX r s
  | .subbRAtIY r => Sys2Proof.Machine.execSubbRAtIY r s
  | .subbRAtIncSP r => Sys2Proof.Machine.execSubbRAtIncSP r s
  | .subbRAtHLC r => Sys2Proof.Machine.execSubbRAtHLC r s
  | .subbRAtIXd r d => Sys2Proof.Machine.execSubbRAtIXd r d s
  | .subbRAtIYd r d => Sys2Proof.Machine.execSubbRAtIYd r d s
  | .subbRAtSPd r d => Sys2Proof.Machine.execSubbRAtSPd r d s
  | .subbRAtHLd r d => Sys2Proof.Machine.execSubbRAtHLd r d s
  | .subbRAtPCA r => Sys2Proof.Machine.execSubbRAtPCA r s
  | .subbAtXN x n => Sys2Proof.Machine.execSubbAtXN x n s
  | .subbAtVWN addr n => Sys2Proof.Machine.execSubbAtVWN addr n s
  | .subbAtDEN n => Sys2Proof.Machine.execSubbAtDEN n s
  | .subbAtHLN n => Sys2Proof.Machine.execSubbAtHLN n s
  | .subbAtIXN n => Sys2Proof.Machine.execSubbAtIXN n s
  | .subbAtIYN n => Sys2Proof.Machine.execSubbAtIYN n s
  | .subbAtIncSPN n => Sys2Proof.Machine.execSubbAtIncSPN n s
  | .subbAtHLCN n => Sys2Proof.Machine.execSubbAtHLCN n s
  | .subbAtIXdN d n => Sys2Proof.Machine.execSubbAtIXdN d n s
  | .subbAtIYdN d n => Sys2Proof.Machine.execSubbAtIYdN d n s
  | .subbAtSPdN d n => Sys2Proof.Machine.execSubbAtSPdN d n s
  | .subbAtHLdN d n => Sys2Proof.Machine.execSubbAtHLdN d n s
  | .subbAtPCAN n => Sys2Proof.Machine.execSubbAtPCAN n s
  | .subbRRAtX rr x => Sys2Proof.Machine.execSubbRRAtX rr x s
  | .subbRRAtVW rr addr => Sys2Proof.Machine.execSubbRRAtVW rr addr s
  | .subbRRAtDE rr => Sys2Proof.Machine.execSubbRRAtDE rr s
  | .subbRRAtHL rr => Sys2Proof.Machine.execSubbRRAtHL rr s
  | .subbRRAtIX rr => Sys2Proof.Machine.execSubbRRAtIX rr s
  | .subbRRAtIY rr => Sys2Proof.Machine.execSubbRRAtIY rr s
  | .subbRRAtIncSP rr => Sys2Proof.Machine.execSubbRRAtIncSP rr s
  | .subbRRAtHLC rr => Sys2Proof.Machine.execSubbRRAtHLC rr s
  | .subbRRAtIXd rr d => Sys2Proof.Machine.execSubbRRAtIXd rr d s
  | .subbRRAtIYd rr d => Sys2Proof.Machine.execSubbRRAtIYd rr d s
  | .subbRRAtSPd rr d => Sys2Proof.Machine.execSubbRRAtSPd rr d s
  | .subbRRAtHLd rr d => Sys2Proof.Machine.execSubbRRAtHLd rr d s
  | .subbRRAtPCA rr => Sys2Proof.Machine.execSubbRRAtPCA rr s
  | .subRAtX r x => Sys2Proof.Machine.execSubRAtX r x s
  | .subRAtVW r addr => Sys2Proof.Machine.execSubRAtVW r addr s
  | .subRAtDE r => Sys2Proof.Machine.execSubRAtDE r s
  | .subRAtHL r => Sys2Proof.Machine.execSubRAtHL r s
  | .subRAtIX r => Sys2Proof.Machine.execSubRAtIX r s
  | .subRAtIY r => Sys2Proof.Machine.execSubRAtIY r s
  | .subRAtIncSP r => Sys2Proof.Machine.execSubRAtIncSP r s
  | .subRAtHLC r => Sys2Proof.Machine.execSubRAtHLC r s
  | .subRAtIXd r d => Sys2Proof.Machine.execSubRAtIXd r d s
  | .subRAtIYd r d => Sys2Proof.Machine.execSubRAtIYd r d s
  | .subRAtSPd r d => Sys2Proof.Machine.execSubRAtSPd r d s
  | .subRAtHLd r d => Sys2Proof.Machine.execSubRAtHLd r d s
  | .subRAtPCA r => Sys2Proof.Machine.execSubRAtPCA r s
  | .subAtXN x n => Sys2Proof.Machine.execSubAtXN x n s
  | .subAtVWN addr n => Sys2Proof.Machine.execSubAtVWN addr n s
  | .subAtDEN n => Sys2Proof.Machine.execSubAtDEN n s
  | .subAtHLN n => Sys2Proof.Machine.execSubAtHLN n s
  | .subAtIXN n => Sys2Proof.Machine.execSubAtIXN n s
  | .subAtIYN n => Sys2Proof.Machine.execSubAtIYN n s
  | .subAtIncSPN n => Sys2Proof.Machine.execSubAtIncSPN n s
  | .subAtHLCN n => Sys2Proof.Machine.execSubAtHLCN n s
  | .subAtIXdN d n => Sys2Proof.Machine.execSubAtIXdN d n s
  | .subAtIYdN d n => Sys2Proof.Machine.execSubAtIYdN d n s
  | .subAtSPdN d n => Sys2Proof.Machine.execSubAtSPdN d n s
  | .subAtHLdN d n => Sys2Proof.Machine.execSubAtHLdN d n s
  | .subAtPCAN n => Sys2Proof.Machine.execSubAtPCAN n s
  | .subRRAtX rr x => Sys2Proof.Machine.execSubRRAtX rr x s
  | .subRRAtVW rr addr => Sys2Proof.Machine.execSubRRAtVW rr addr s
  | .subRRAtDE rr => Sys2Proof.Machine.execSubRRAtDE rr s
  | .subRRAtHL rr => Sys2Proof.Machine.execSubRRAtHL rr s
  | .subRRAtIX rr => Sys2Proof.Machine.execSubRRAtIX rr s
  | .subRRAtIY rr => Sys2Proof.Machine.execSubRRAtIY rr s
  | .subRRAtIncSP rr => Sys2Proof.Machine.execSubRRAtIncSP rr s
  | .subRRAtHLC rr => Sys2Proof.Machine.execSubRRAtHLC rr s
  | .subRRAtIXd rr d => Sys2Proof.Machine.execSubRRAtIXd rr d s
  | .subRRAtIYd rr d => Sys2Proof.Machine.execSubRRAtIYd rr d s
  | .subRRAtSPd rr d => Sys2Proof.Machine.execSubRRAtSPd rr d s
  | .subRRAtHLd rr d => Sys2Proof.Machine.execSubRRAtHLd rr d s
  | .subRRAtPCA rr => Sys2Proof.Machine.execSubRRAtPCA rr s
  | .andRAtX r x => Sys2Proof.Machine.execAndRAtX r x s
  | .andRAtVW r addr => Sys2Proof.Machine.execAndRAtVW r addr s
  | .andRAtDE r => Sys2Proof.Machine.execAndRAtDE r s
  | .andRAtHL r => Sys2Proof.Machine.execAndRAtHL r s
  | .andRAtIX r => Sys2Proof.Machine.execAndRAtIX r s
  | .andRAtIY r => Sys2Proof.Machine.execAndRAtIY r s
  | .andRAtIncSP r => Sys2Proof.Machine.execAndRAtIncSP r s
  | .andRAtHLC r => Sys2Proof.Machine.execAndRAtHLC r s
  | .andRAtIXd r d => Sys2Proof.Machine.execAndRAtIXd r d s
  | .andRAtIYd r d => Sys2Proof.Machine.execAndRAtIYd r d s
  | .andRAtSPd r d => Sys2Proof.Machine.execAndRAtSPd r d s
  | .andRAtHLd r d => Sys2Proof.Machine.execAndRAtHLd r d s
  | .andRAtPCA r => Sys2Proof.Machine.execAndRAtPCA r s
  | .andAtXN x n => Sys2Proof.Machine.execAndAtXN x n s
  | .andAtVWN addr n => Sys2Proof.Machine.execAndAtVWN addr n s
  | .andAtDEN n => Sys2Proof.Machine.execAndAtDEN n s
  | .andAtHLN n => Sys2Proof.Machine.execAndAtHLN n s
  | .andAtIXN n => Sys2Proof.Machine.execAndAtIXN n s
  | .andAtIYN n => Sys2Proof.Machine.execAndAtIYN n s
  | .andAtIncSPN n => Sys2Proof.Machine.execAndAtIncSPN n s
  | .andAtHLCN n => Sys2Proof.Machine.execAndAtHLCN n s
  | .andAtIXdN d n => Sys2Proof.Machine.execAndAtIXdN d n s
  | .andAtIYdN d n => Sys2Proof.Machine.execAndAtIYdN d n s
  | .andAtSPdN d n => Sys2Proof.Machine.execAndAtSPdN d n s
  | .andAtHLdN d n => Sys2Proof.Machine.execAndAtHLdN d n s
  | .andAtPCAN n => Sys2Proof.Machine.execAndAtPCAN n s
  | .andRRAtX rr x => Sys2Proof.Machine.execAndRRAtX rr x s
  | .andRRAtVW rr addr => Sys2Proof.Machine.execAndRRAtVW rr addr s
  | .andRRAtDE rr => Sys2Proof.Machine.execAndRRAtDE rr s
  | .andRRAtHL rr => Sys2Proof.Machine.execAndRRAtHL rr s
  | .andRRAtIX rr => Sys2Proof.Machine.execAndRRAtIX rr s
  | .andRRAtIY rr => Sys2Proof.Machine.execAndRRAtIY rr s
  | .andRRAtIncSP rr => Sys2Proof.Machine.execAndRRAtIncSP rr s
  | .andRRAtHLC rr => Sys2Proof.Machine.execAndRRAtHLC rr s
  | .andRRAtIXd rr d => Sys2Proof.Machine.execAndRRAtIXd rr d s
  | .andRRAtIYd rr d => Sys2Proof.Machine.execAndRRAtIYd rr d s
  | .andRRAtSPd rr d => Sys2Proof.Machine.execAndRRAtSPd rr d s
  | .andRRAtHLd rr d => Sys2Proof.Machine.execAndRRAtHLd rr d s
  | .andRRAtPCA rr => Sys2Proof.Machine.execAndRRAtPCA rr s
  | .xorRAtX r x => Sys2Proof.Machine.execXorRAtX r x s
  | .xorRAtVW r addr => Sys2Proof.Machine.execXorRAtVW r addr s
  | .xorRAtDE r => Sys2Proof.Machine.execXorRAtDE r s
  | .xorRAtHL r => Sys2Proof.Machine.execXorRAtHL r s
  | .xorRAtIX r => Sys2Proof.Machine.execXorRAtIX r s
  | .xorRAtIY r => Sys2Proof.Machine.execXorRAtIY r s
  | .xorRAtIncSP r => Sys2Proof.Machine.execXorRAtIncSP r s
  | .xorRAtHLC r => Sys2Proof.Machine.execXorRAtHLC r s
  | .xorRAtIXd r d => Sys2Proof.Machine.execXorRAtIXd r d s
  | .xorRAtIYd r d => Sys2Proof.Machine.execXorRAtIYd r d s
  | .xorRAtSPd r d => Sys2Proof.Machine.execXorRAtSPd r d s
  | .xorRAtHLd r d => Sys2Proof.Machine.execXorRAtHLd r d s
  | .xorRAtPCA r => Sys2Proof.Machine.execXorRAtPCA r s
  | .xorAtXN x n => Sys2Proof.Machine.execXorAtXN x n s
  | .xorAtVWN addr n => Sys2Proof.Machine.execXorAtVWN addr n s
  | .xorAtDEN n => Sys2Proof.Machine.execXorAtDEN n s
  | .xorAtHLN n => Sys2Proof.Machine.execXorAtHLN n s
  | .xorAtIXN n => Sys2Proof.Machine.execXorAtIXN n s
  | .xorAtIYN n => Sys2Proof.Machine.execXorAtIYN n s
  | .xorAtIncSPN n => Sys2Proof.Machine.execXorAtIncSPN n s
  | .xorAtHLCN n => Sys2Proof.Machine.execXorAtHLCN n s
  | .xorAtIXdN d n => Sys2Proof.Machine.execXorAtIXdN d n s
  | .xorAtIYdN d n => Sys2Proof.Machine.execXorAtIYdN d n s
  | .xorAtSPdN d n => Sys2Proof.Machine.execXorAtSPdN d n s
  | .xorAtHLdN d n => Sys2Proof.Machine.execXorAtHLdN d n s
  | .xorAtPCAN n => Sys2Proof.Machine.execXorAtPCAN n s
  | .xorRRAtX rr x => Sys2Proof.Machine.execXorRRAtX rr x s
  | .xorRRAtVW rr addr => Sys2Proof.Machine.execXorRRAtVW rr addr s
  | .xorRRAtDE rr => Sys2Proof.Machine.execXorRRAtDE rr s
  | .xorRRAtHL rr => Sys2Proof.Machine.execXorRRAtHL rr s
  | .xorRRAtIX rr => Sys2Proof.Machine.execXorRRAtIX rr s
  | .xorRRAtIY rr => Sys2Proof.Machine.execXorRRAtIY rr s
  | .xorRRAtIncSP rr => Sys2Proof.Machine.execXorRRAtIncSP rr s
  | .xorRRAtHLC rr => Sys2Proof.Machine.execXorRRAtHLC rr s
  | .xorRRAtIXd rr d => Sys2Proof.Machine.execXorRRAtIXd rr d s
  | .xorRRAtIYd rr d => Sys2Proof.Machine.execXorRRAtIYd rr d s
  | .xorRRAtSPd rr d => Sys2Proof.Machine.execXorRRAtSPd rr d s
  | .xorRRAtHLd rr d => Sys2Proof.Machine.execXorRRAtHLd rr d s
  | .xorRRAtPCA rr => Sys2Proof.Machine.execXorRRAtPCA rr s
  | .orRAtX r x => Sys2Proof.Machine.execOrRAtX r x s
  | .orRAtVW r addr => Sys2Proof.Machine.execOrRAtVW r addr s
  | .orRAtDE r => Sys2Proof.Machine.execOrRAtDE r s
  | .orRAtHL r => Sys2Proof.Machine.execOrRAtHL r s
  | .orRAtIX r => Sys2Proof.Machine.execOrRAtIX r s
  | .orRAtIY r => Sys2Proof.Machine.execOrRAtIY r s
  | .orRAtIncSP r => Sys2Proof.Machine.execOrRAtIncSP r s
  | .orRAtHLC r => Sys2Proof.Machine.execOrRAtHLC r s
  | .orRAtIXd r d => Sys2Proof.Machine.execOrRAtIXd r d s
  | .orRAtIYd r d => Sys2Proof.Machine.execOrRAtIYd r d s
  | .orRAtSPd r d => Sys2Proof.Machine.execOrRAtSPd r d s
  | .orRAtHLd r d => Sys2Proof.Machine.execOrRAtHLd r d s
  | .orRAtPCA r => Sys2Proof.Machine.execOrRAtPCA r s
  | .orAtXN x n => Sys2Proof.Machine.execOrAtXN x n s
  | .orAtVWN addr n => Sys2Proof.Machine.execOrAtVWN addr n s
  | .orAtDEN n => Sys2Proof.Machine.execOrAtDEN n s
  | .orAtHLN n => Sys2Proof.Machine.execOrAtHLN n s
  | .orAtIXN n => Sys2Proof.Machine.execOrAtIXN n s
  | .orAtIYN n => Sys2Proof.Machine.execOrAtIYN n s
  | .orAtIncSPN n => Sys2Proof.Machine.execOrAtIncSPN n s
  | .orAtHLCN n => Sys2Proof.Machine.execOrAtHLCN n s
  | .orAtIXdN d n => Sys2Proof.Machine.execOrAtIXdN d n s
  | .orAtIYdN d n => Sys2Proof.Machine.execOrAtIYdN d n s
  | .orAtSPdN d n => Sys2Proof.Machine.execOrAtSPdN d n s
  | .orAtHLdN d n => Sys2Proof.Machine.execOrAtHLdN d n s
  | .orAtPCAN n => Sys2Proof.Machine.execOrAtPCAN n s
  | .orRRAtX rr x => Sys2Proof.Machine.execOrRRAtX rr x s
  | .orRRAtVW rr addr => Sys2Proof.Machine.execOrRRAtVW rr addr s
  | .orRRAtDE rr => Sys2Proof.Machine.execOrRRAtDE rr s
  | .orRRAtHL rr => Sys2Proof.Machine.execOrRRAtHL rr s
  | .orRRAtIX rr => Sys2Proof.Machine.execOrRRAtIX rr s
  | .orRRAtIY rr => Sys2Proof.Machine.execOrRRAtIY rr s
  | .orRRAtIncSP rr => Sys2Proof.Machine.execOrRRAtIncSP rr s
  | .orRRAtHLC rr => Sys2Proof.Machine.execOrRRAtHLC rr s
  | .orRRAtIXd rr d => Sys2Proof.Machine.execOrRRAtIXd rr d s
  | .orRRAtIYd rr d => Sys2Proof.Machine.execOrRRAtIYd rr d s
  | .orRRAtSPd rr d => Sys2Proof.Machine.execOrRRAtSPd rr d s
  | .orRRAtHLd rr d => Sys2Proof.Machine.execOrRRAtHLd rr d s
  | .orRRAtPCA rr => Sys2Proof.Machine.execOrRRAtPCA rr s
  | .cmpRAtX r x => Sys2Proof.Machine.execCmpRAtX r x s
  | .cmpRAtVW r addr => Sys2Proof.Machine.execCmpRAtVW r addr s
  | .cmpRAtDE r => Sys2Proof.Machine.execCmpRAtDE r s
  | .cmpRAtHL r => Sys2Proof.Machine.execCmpRAtHL r s
  | .cmpRAtIX r => Sys2Proof.Machine.execCmpRAtIX r s
  | .cmpRAtIY r => Sys2Proof.Machine.execCmpRAtIY r s
  | .cmpRAtIncSP r => Sys2Proof.Machine.execCmpRAtIncSP r s
  | .cmpRAtHLC r => Sys2Proof.Machine.execCmpRAtHLC r s
  | .cmpRAtIXd r d => Sys2Proof.Machine.execCmpRAtIXd r d s
  | .cmpRAtIYd r d => Sys2Proof.Machine.execCmpRAtIYd r d s
  | .cmpRAtSPd r d => Sys2Proof.Machine.execCmpRAtSPd r d s
  | .cmpRAtHLd r d => Sys2Proof.Machine.execCmpRAtHLd r d s
  | .cmpRAtPCA r => Sys2Proof.Machine.execCmpRAtPCA r s
  | .cmpAtXNLong x n => Sys2Proof.Machine.execCmpAtXNLong x n s
  | .cmpAtVWN addr n => Sys2Proof.Machine.execCmpAtVWN addr n s
  | .cmpAtDEN n => Sys2Proof.Machine.execCmpAtDEN n s
  | .cmpAtHLN n => Sys2Proof.Machine.execCmpAtHLN n s
  | .cmpAtIXN n => Sys2Proof.Machine.execCmpAtIXN n s
  | .cmpAtIYN n => Sys2Proof.Machine.execCmpAtIYN n s
  | .cmpAtIncSPN n => Sys2Proof.Machine.execCmpAtIncSPN n s
  | .cmpAtHLCN n => Sys2Proof.Machine.execCmpAtHLCN n s
  | .cmpAtIXdN d n => Sys2Proof.Machine.execCmpAtIXdN d n s
  | .cmpAtIYdN d n => Sys2Proof.Machine.execCmpAtIYdN d n s
  | .cmpAtSPdN d n => Sys2Proof.Machine.execCmpAtSPdN d n s
  | .cmpAtHLdN d n => Sys2Proof.Machine.execCmpAtHLdN d n s
  | .cmpAtPCAN n => Sys2Proof.Machine.execCmpAtPCAN n s
  | .cmpRRAtX rr x => Sys2Proof.Machine.execCmpRRAtX rr x s
  | .cmpRRAtVW rr addr => Sys2Proof.Machine.execCmpRRAtVW rr addr s
  | .cmpRRAtDE rr => Sys2Proof.Machine.execCmpRRAtDE rr s
  | .cmpRRAtHL rr => Sys2Proof.Machine.execCmpRRAtHL rr s
  | .cmpRRAtIX rr => Sys2Proof.Machine.execCmpRRAtIX rr s
  | .cmpRRAtIY rr => Sys2Proof.Machine.execCmpRRAtIY rr s
  | .cmpRRAtIncSP rr => Sys2Proof.Machine.execCmpRRAtIncSP rr s
  | .cmpRRAtHLC rr => Sys2Proof.Machine.execCmpRRAtHLC rr s
  | .cmpRRAtIXd rr d => Sys2Proof.Machine.execCmpRRAtIXd rr d s
  | .cmpRRAtIYd rr d => Sys2Proof.Machine.execCmpRRAtIYd rr d s
  | .cmpRRAtSPd rr d => Sys2Proof.Machine.execCmpRRAtSPd rr d s
  | .cmpRRAtHLd rr d => Sys2Proof.Machine.execCmpRRAtHLd rr d s
  | .cmpRRAtPCA rr => Sys2Proof.Machine.execCmpRRAtPCA rr s
  | .ldRAtX r x => Sys2Proof.Machine.execLdRAtX r x s
  | .ldRAtVW r addr => Sys2Proof.Machine.execLdRAtVW r addr s
  | .ldRAtDE r => Sys2Proof.Machine.execLdRAtDE r s
  | .ldRAtHL r => Sys2Proof.Machine.execLdRAtHL r s
  | .ldRAtIX r => Sys2Proof.Machine.execLdRAtIX r s
  | .ldRAtIY r => Sys2Proof.Machine.execLdRAtIY r s
  | .ldRAtIncSP r => Sys2Proof.Machine.execLdRAtIncSP r s
  | .ldRAtHLC r => Sys2Proof.Machine.execLdRAtHLC r s
  | .ldRAtIXd r d => Sys2Proof.Machine.execLdRAtIXd r d s
  | .ldRAtIYd r d => Sys2Proof.Machine.execLdRAtIYd r d s
  | .ldRAtSPd r d => Sys2Proof.Machine.execLdRAtSPd r d s
  | .ldRAtHLd r d => Sys2Proof.Machine.execLdRAtHLd r d s
  | .ldRAtPCA r => Sys2Proof.Machine.execLdRAtPCA r s
  | .ldRRAtX rr x => Sys2Proof.Machine.execLdRRAtX rr x s
  | .ldRRAtVW rr addr => Sys2Proof.Machine.execLdRRAtVW rr addr s
  | .ldRRAtDE rr => Sys2Proof.Machine.execLdRRAtDE rr s
  | .ldRRAtHL rr => Sys2Proof.Machine.execLdRRAtHL rr s
  | .ldRRAtIX rr => Sys2Proof.Machine.execLdRRAtIX rr s
  | .ldRRAtIY rr => Sys2Proof.Machine.execLdRRAtIY rr s
  | .ldRRAtIncSP rr => Sys2Proof.Machine.execLdRRAtIncSP rr s
  | .ldRRAtHLC rr => Sys2Proof.Machine.execLdRRAtHLC rr s
  | .ldRRAtIXd rr d => Sys2Proof.Machine.execLdRRAtIXd rr d s
  | .ldRRAtIYd rr d => Sys2Proof.Machine.execLdRRAtIYd rr d s
  | .ldRRAtSPd rr d => Sys2Proof.Machine.execLdRRAtSPd rr d s
  | .ldRRAtHLd rr d => Sys2Proof.Machine.execLdRRAtHLd rr d s
  | .ldRRAtPCA rr => Sys2Proof.Machine.execLdRRAtPCA rr s
  | .xorCFAtXb x b => Sys2Proof.Machine.execXorCFAtXb x b s
  | .xorCFAtVWb addr b => Sys2Proof.Machine.execXorCFAtVWb addr b s
  | .xorCFAtDEb b => Sys2Proof.Machine.execXorCFAtDEb b s
  | .xorCFAtHLb b => Sys2Proof.Machine.execXorCFAtHLb b s
  | .xorCFAtIXb b => Sys2Proof.Machine.execXorCFAtIXb b s
  | .xorCFAtIYb b => Sys2Proof.Machine.execXorCFAtIYb b s
  | .xorCFAtIncSPb b => Sys2Proof.Machine.execXorCFAtIncSPb b s
  | .xorCFAtHLCb b => Sys2Proof.Machine.execXorCFAtHLCb b s
  | .xorCFAtIXdb d b => Sys2Proof.Machine.execXorCFAtIXdb d b s
  | .xorCFAtIYdb d b => Sys2Proof.Machine.execXorCFAtIYdb d b s
  | .xorCFAtSPdb d b => Sys2Proof.Machine.execXorCFAtSPdb d b s
  | .xorCFAtHLdb d b => Sys2Proof.Machine.execXorCFAtHLdb d b s
  | .xorCFAtPCAb b => Sys2Proof.Machine.execXorCFAtPCAb b s
  | .ldCFAtXbLong x b => Sys2Proof.Machine.execLdCFAtXbLong x b s
  | .ldCFAtVWb addr b => Sys2Proof.Machine.execLdCFAtVWb addr b s
  | .ldCFAtDEb b => Sys2Proof.Machine.execLdCFAtDEb b s
  | .ldCFAtHLb b => Sys2Proof.Machine.execLdCFAtHLb b s
  | .ldCFAtIXb b => Sys2Proof.Machine.execLdCFAtIXb b s
  | .ldCFAtIYb b => Sys2Proof.Machine.execLdCFAtIYb b s
  | .ldCFAtIncSPb b => Sys2Proof.Machine.execLdCFAtIncSPb b s
  | .ldCFAtHLCb b => Sys2Proof.Machine.execLdCFAtHLCb b s
  | .ldCFAtIXdb d b => Sys2Proof.Machine.execLdCFAtIXdb d b s
  | .ldCFAtIYdb d b => Sys2Proof.Machine.execLdCFAtIYdb d b s
  | .ldCFAtSPdb d b => Sys2Proof.Machine.execLdCFAtSPdb d b s
  | .ldCFAtHLdb d b => Sys2Proof.Machine.execLdCFAtHLdb d b s
  | .ldCFAtPCAb b => Sys2Proof.Machine.execLdCFAtPCAb b s
  | .testAtXbLong x b => Sys2Proof.Machine.execTestAtXbLong x b s
  | .testAtVWb addr b => Sys2Proof.Machine.execTestAtVWb addr b s
  | .testAtDEb b => Sys2Proof.Machine.execTestAtDEb b s
  | .testAtHLb b => Sys2Proof.Machine.execTestAtHLb b s
  | .testAtIXb b => Sys2Proof.Machine.execTestAtIXb b s
  | .testAtIYb b => Sys2Proof.Machine.execTestAtIYb b s
  | .testAtIncSPb b => Sys2Proof.Machine.execTestAtIncSPb b s
  | .testAtHLCb b => Sys2Proof.Machine.execTestAtHLCb b s
  | .testAtIXdb d b => Sys2Proof.Machine.execTestAtIXdb d b s
  | .testAtIYdb d b => Sys2Proof.Machine.execTestAtIYdb d b s
  | .testAtSPdb d b => Sys2Proof.Machine.execTestAtSPdb d b s
  | .testAtHLdb d b => Sys2Proof.Machine.execTestAtHLdb d b s
  | .testAtPCAb b => Sys2Proof.Machine.execTestAtPCAb b s
  | .xchRAtX r x => Sys2Proof.Machine.execXchRAtX r x s
  | .xchRAtVW r addr => Sys2Proof.Machine.execXchRAtVW r addr s
  | .xchRAtDE r => Sys2Proof.Machine.execXchRAtDE r s
  | .xchRAtHL r => Sys2Proof.Machine.execXchRAtHL r s
  | .xchRAtIX r => Sys2Proof.Machine.execXchRAtIX r s
  | .xchRAtIY r => Sys2Proof.Machine.execXchRAtIY r s
  | .xchRAtIncSP r => Sys2Proof.Machine.execXchRAtIncSP r s
  | .xchRAtHLC r => Sys2Proof.Machine.execXchRAtHLC r s
  | .xchRAtIXd r d => Sys2Proof.Machine.execXchRAtIXd r d s
  | .xchRAtIYd r d => Sys2Proof.Machine.execXchRAtIYd r d s
  | .xchRAtSPd r d => Sys2Proof.Machine.execXchRAtSPd r d s
  | .xchRAtHLd r d => Sys2Proof.Machine.execXchRAtHLd r d s
  | .xchRAtPCA r => Sys2Proof.Machine.execXchRAtPCA r s
  | .setAtXbLong x b => Sys2Proof.Machine.execSetAtXbLong x b s
  | .setAtVWb addr b => Sys2Proof.Machine.execSetAtVWb addr b s
  | .setAtDEb b => Sys2Proof.Machine.execSetAtDEb b s
  | .setAtHLb b => Sys2Proof.Machine.execSetAtHLb b s
  | .setAtIXb b => Sys2Proof.Machine.execSetAtIXb b s
  | .setAtIYb b => Sys2Proof.Machine.execSetAtIYb b s
  | .setAtIncSPb b => Sys2Proof.Machine.execSetAtIncSPb b s
  | .setAtHLCb b => Sys2Proof.Machine.execSetAtHLCb b s
  | .setAtIXdb d b => Sys2Proof.Machine.execSetAtIXdb d b s
  | .setAtIYdb d b => Sys2Proof.Machine.execSetAtIYdb d b s
  | .setAtSPdb d b => Sys2Proof.Machine.execSetAtSPdb d b s
  | .setAtHLdb d b => Sys2Proof.Machine.execSetAtHLdb d b s
  | .setAtPCAb b => Sys2Proof.Machine.execSetAtPCAb b s
  | .clrAtXbLong x b => Sys2Proof.Machine.execClrAtXbLong x b s
  | .clrAtVWb addr b => Sys2Proof.Machine.execClrAtVWb addr b s
  | .clrAtDEb b => Sys2Proof.Machine.execClrAtDEb b s
  | .clrAtHLb b => Sys2Proof.Machine.execClrAtHLb b s
  | .clrAtIXb b => Sys2Proof.Machine.execClrAtIXb b s
  | .clrAtIYb b => Sys2Proof.Machine.execClrAtIYb b s
  | .clrAtIncSPb b => Sys2Proof.Machine.execClrAtIncSPb b s
  | .clrAtHLCb b => Sys2Proof.Machine.execClrAtHLCb b s
  | .clrAtIXdb d b => Sys2Proof.Machine.execClrAtIXdb d b s
  | .clrAtIYdb d b => Sys2Proof.Machine.execClrAtIYdb d b s
  | .clrAtSPdb d b => Sys2Proof.Machine.execClrAtSPdb d b s
  | .clrAtHLdb d b => Sys2Proof.Machine.execClrAtHLdb d b s
  | .clrAtPCAb b => Sys2Proof.Machine.execClrAtPCAb b s
  | .xchRRAtX rr x => Sys2Proof.Machine.execXchRRAtX rr x s
  | .xchRRAtVW rr addr => Sys2Proof.Machine.execXchRRAtVW rr addr s
  | .xchRRAtDE rr => Sys2Proof.Machine.execXchRRAtDE rr s
  | .xchRRAtHL rr => Sys2Proof.Machine.execXchRRAtHL rr s
  | .xchRRAtIX rr => Sys2Proof.Machine.execXchRRAtIX rr s
  | .xchRRAtIY rr => Sys2Proof.Machine.execXchRRAtIY rr s
  | .xchRRAtIncSP rr => Sys2Proof.Machine.execXchRRAtIncSP rr s
  | .xchRRAtHLC rr => Sys2Proof.Machine.execXchRRAtHLC rr s
  | .xchRRAtIXd rr d => Sys2Proof.Machine.execXchRRAtIXd rr d s
  | .xchRRAtIYd rr d => Sys2Proof.Machine.execXchRRAtIYd rr d s
  | .xchRRAtSPd rr d => Sys2Proof.Machine.execXchRRAtSPd rr d s
  | .xchRRAtHLd rr d => Sys2Proof.Machine.execXchRRAtHLd rr d s
  | .xchRRAtPCA rr => Sys2Proof.Machine.execXchRRAtPCA rr s
  | .cplAtXb x b => Sys2Proof.Machine.execCplAtXb x b s
  | .cplAtVWb addr b => Sys2Proof.Machine.execCplAtVWb addr b s
  | .cplAtDEb b => Sys2Proof.Machine.execCplAtDEb b s
  | .cplAtHLb b => Sys2Proof.Machine.execCplAtHLb b s
  | .cplAtIXb b => Sys2Proof.Machine.execCplAtIXb b s
  | .cplAtIYb b => Sys2Proof.Machine.execCplAtIYb b s
  | .cplAtIncSPb b => Sys2Proof.Machine.execCplAtIncSPb b s
  | .cplAtHLCb b => Sys2Proof.Machine.execCplAtHLCb b s
  | .cplAtIXdb d b => Sys2Proof.Machine.execCplAtIXdb d b s
  | .cplAtIYdb d b => Sys2Proof.Machine.execCplAtIYdb d b s
  | .cplAtSPdb d b => Sys2Proof.Machine.execCplAtSPdb d b s
  | .cplAtHLdb d b => Sys2Proof.Machine.execCplAtHLdb d b s
  | .cplAtPCAb b => Sys2Proof.Machine.execCplAtPCAb b s
  | .ldAtXbCF x b => Sys2Proof.Machine.execLdAtXbCF x b s
  | .ldAtVWbCF addr b => Sys2Proof.Machine.execLdAtVWbCF addr b s
  | .ldAtDEbCF b => Sys2Proof.Machine.execLdAtDEbCF b s
  | .ldAtHLbCF b => Sys2Proof.Machine.execLdAtHLbCF b s
  | .ldAtIXbCF b => Sys2Proof.Machine.execLdAtIXbCF b s
  | .ldAtIYbCF b => Sys2Proof.Machine.execLdAtIYbCF b s
  | .ldAtIncSPbCF b => Sys2Proof.Machine.execLdAtIncSPbCF b s
  | .ldAtHLCbCF b => Sys2Proof.Machine.execLdAtHLCbCF b s
  | .ldAtIXdbCF d b => Sys2Proof.Machine.execLdAtIXdbCF d b s
  | .ldAtIYdbCF d b => Sys2Proof.Machine.execLdAtIYdbCF d b s
  | .ldAtSPdbCF d b => Sys2Proof.Machine.execLdAtSPdbCF d b s
  | .ldAtHLdbCF d b => Sys2Proof.Machine.execLdAtHLdbCF d b s
  | .ldAtPCAbCF b => Sys2Proof.Machine.execLdAtPCAbCF b s
  | .incAtX x => Sys2Proof.Machine.execIncAtX x s
  | .incAtVW addr => Sys2Proof.Machine.execIncAtVW addr s
  | .incAtDE => Sys2Proof.Machine.execIncAtDE s
  | .incAtHL => Sys2Proof.Machine.execIncAtHL s
  | .incAtIX => Sys2Proof.Machine.execIncAtIX s
  | .incAtIY => Sys2Proof.Machine.execIncAtIY s
  | .incAtIncSP => Sys2Proof.Machine.execIncAtIncSP s
  | .incAtHLC => Sys2Proof.Machine.execIncAtHLC s
  | .incAtIXd d => Sys2Proof.Machine.execIncAtIXd d s
  | .incAtIYd d => Sys2Proof.Machine.execIncAtIYd d s
  | .incAtSPd d => Sys2Proof.Machine.execIncAtSPd d s
  | .incAtHLd d => Sys2Proof.Machine.execIncAtHLd d s
  | .incAtPCA => Sys2Proof.Machine.execIncAtPCA s
  | .setAtXbitA x => Sys2Proof.Machine.execSetAtXbitA x s
  | .setAtVWbitA addr => Sys2Proof.Machine.execSetAtVWbitA addr s
  | .setAtDEbitA => Sys2Proof.Machine.execSetAtDEbitA s
  | .setAtHLbitA => Sys2Proof.Machine.execSetAtHLbitA s
  | .setAtIXbitA => Sys2Proof.Machine.execSetAtIXbitA s
  | .setAtIYbitA => Sys2Proof.Machine.execSetAtIYbitA s
  | .setAtIncSPbitA => Sys2Proof.Machine.execSetAtIncSPbitA s
  | .setAtHLCbitA => Sys2Proof.Machine.execSetAtHLCbitA s
  | .setAtIXdbitA d => Sys2Proof.Machine.execSetAtIXdbitA d s
  | .setAtIYdbitA d => Sys2Proof.Machine.execSetAtIYdbitA d s
  | .setAtSPdbitA d => Sys2Proof.Machine.execSetAtSPdbitA d s
  | .setAtHLdbitA d => Sys2Proof.Machine.execSetAtHLdbitA d s
  | .setAtPCAbitA => Sys2Proof.Machine.execSetAtPCAbitA s
  | .ldAtXbitACF x => Sys2Proof.Machine.execLdAtXbitACF x s
  | .ldAtVWbitACF addr => Sys2Proof.Machine.execLdAtVWbitACF addr s
  | .ldAtDEbitACF => Sys2Proof.Machine.execLdAtDEbitACF s
  | .ldAtHLbitACF => Sys2Proof.Machine.execLdAtHLbitACF s
  | .ldAtIXbitACF => Sys2Proof.Machine.execLdAtIXbitACF s
  | .ldAtIYbitACF => Sys2Proof.Machine.execLdAtIYbitACF s
  | .ldAtIncSPbitACF => Sys2Proof.Machine.execLdAtIncSPbitACF s
  | .ldAtHLCbitACF => Sys2Proof.Machine.execLdAtHLCbitACF s
  | .ldAtIXdbitACF d => Sys2Proof.Machine.execLdAtIXdbitACF d s
  | .ldAtIYdbitACF d => Sys2Proof.Machine.execLdAtIYdbitACF d s
  | .ldAtSPdbitACF d => Sys2Proof.Machine.execLdAtSPdbitACF d s
  | .ldAtHLdbitACF d => Sys2Proof.Machine.execLdAtHLdbitACF d s
  | .ldAtPCAbitACF => Sys2Proof.Machine.execLdAtPCAbitACF s
  | .roldAAtX x => Sys2Proof.Machine.execRoldAAtX x s
  | .roldAAtVW addr => Sys2Proof.Machine.execRoldAAtVW addr s
  | .roldAAtDE => Sys2Proof.Machine.execRoldAAtDE s
  | .roldAAtHL => Sys2Proof.Machine.execRoldAAtHL s
  | .roldAAtIX => Sys2Proof.Machine.execRoldAAtIX s
  | .roldAAtIY => Sys2Proof.Machine.execRoldAAtIY s
  | .roldAAtIncSP => Sys2Proof.Machine.execRoldAAtIncSP s
  | .roldAAtHLC => Sys2Proof.Machine.execRoldAAtHLC s
  | .roldAAtIXd d => Sys2Proof.Machine.execRoldAAtIXd d s
  | .roldAAtIYd d => Sys2Proof.Machine.execRoldAAtIYd d s
  | .roldAAtSPd d => Sys2Proof.Machine.execRoldAAtSPd d s
  | .roldAAtHLd d => Sys2Proof.Machine.execRoldAAtHLd d s
  | .roldAAtPCA => Sys2Proof.Machine.execRoldAAtPCA s
  | .rordAAtX x => Sys2Proof.Machine.execRordAAtX x s
  | .rordAAtVW addr => Sys2Proof.Machine.execRordAAtVW addr s
  | .rordAAtDE => Sys2Proof.Machine.execRordAAtDE s
  | .rordAAtHL => Sys2Proof.Machine.execRordAAtHL s
  | .rordAAtIX => Sys2Proof.Machine.execRordAAtIX s
  | .rordAAtIY => Sys2Proof.Machine.execRordAAtIY s
  | .rordAAtIncSP => Sys2Proof.Machine.execRordAAtIncSP s
  | .rordAAtHLC => Sys2Proof.Machine.execRordAAtHLC s
  | .rordAAtIXd d => Sys2Proof.Machine.execRordAAtIXd d s
  | .rordAAtIYd d => Sys2Proof.Machine.execRordAAtIYd d s
  | .rordAAtSPd d => Sys2Proof.Machine.execRordAAtSPd d s
  | .rordAAtHLd d => Sys2Proof.Machine.execRordAAtHLd d s
  | .rordAAtPCA => Sys2Proof.Machine.execRordAAtPCA s
  | .decAtX x => Sys2Proof.Machine.execDecAtX x s
  | .decAtVW addr => Sys2Proof.Machine.execDecAtVW addr s
  | .decAtDE => Sys2Proof.Machine.execDecAtDE s
  | .decAtHL => Sys2Proof.Machine.execDecAtHL s
  | .decAtIX => Sys2Proof.Machine.execDecAtIX s
  | .decAtIY => Sys2Proof.Machine.execDecAtIY s
  | .decAtIncSP => Sys2Proof.Machine.execDecAtIncSP s
  | .decAtHLC => Sys2Proof.Machine.execDecAtHLC s
  | .decAtIXd d => Sys2Proof.Machine.execDecAtIXd d s
  | .decAtIYd d => Sys2Proof.Machine.execDecAtIYd d s
  | .decAtSPd d => Sys2Proof.Machine.execDecAtSPd d s
  | .decAtHLd d => Sys2Proof.Machine.execDecAtHLd d s
  | .decAtPCA => Sys2Proof.Machine.execDecAtPCA s
  | .clrAtXbitA x => Sys2Proof.Machine.execClrAtXbitA x s
  | .clrAtVWbitA addr => Sys2Proof.Machine.execClrAtVWbitA addr s
  | .clrAtDEbitA => Sys2Proof.Machine.execClrAtDEbitA s
  | .clrAtHLbitA => Sys2Proof.Machine.execClrAtHLbitA s
  | .clrAtIXbitA => Sys2Proof.Machine.execClrAtIXbitA s
  | .clrAtIYbitA => Sys2Proof.Machine.execClrAtIYbitA s
  | .clrAtIncSPbitA => Sys2Proof.Machine.execClrAtIncSPbitA s
  | .clrAtHLCbitA => Sys2Proof.Machine.execClrAtHLCbitA s
  | .clrAtIXdbitA d => Sys2Proof.Machine.execClrAtIXdbitA d s
  | .clrAtIYdbitA d => Sys2Proof.Machine.execClrAtIYdbitA d s
  | .clrAtSPdbitA d => Sys2Proof.Machine.execClrAtSPdbitA d s
  | .clrAtHLdbitA d => Sys2Proof.Machine.execClrAtHLdbitA d s
  | .clrAtPCAbitA => Sys2Proof.Machine.execClrAtPCAbitA s
  | .cplAtXbitA x => Sys2Proof.Machine.execCplAtXbitA x s
  | .cplAtVWbitA addr => Sys2Proof.Machine.execCplAtVWbitA addr s
  | .cplAtDEbitA => Sys2Proof.Machine.execCplAtDEbitA s
  | .cplAtHLbitA => Sys2Proof.Machine.execCplAtHLbitA s
  | .cplAtIXbitA => Sys2Proof.Machine.execCplAtIXbitA s
  | .cplAtIYbitA => Sys2Proof.Machine.execCplAtIYbitA s
  | .cplAtIncSPbitA => Sys2Proof.Machine.execCplAtIncSPbitA s
  | .cplAtHLCbitA => Sys2Proof.Machine.execCplAtHLCbitA s
  | .cplAtIXdbitA d => Sys2Proof.Machine.execCplAtIXdbitA d s
  | .cplAtIYdbitA d => Sys2Proof.Machine.execCplAtIYdbitA d s
  | .cplAtSPdbitA d => Sys2Proof.Machine.execCplAtSPdbitA d s
  | .cplAtHLdbitA d => Sys2Proof.Machine.execCplAtHLdbitA d s
  | .cplAtPCAbitA => Sys2Proof.Machine.execCplAtPCAbitA s
  | .ldCFAtXbitA x => Sys2Proof.Machine.execLdCFAtXbitA x s
  | .ldCFAtVWbitA addr => Sys2Proof.Machine.execLdCFAtVWbitA addr s
  | .ldCFAtDEbitA => Sys2Proof.Machine.execLdCFAtDEbitA s
  | .ldCFAtHLbitA => Sys2Proof.Machine.execLdCFAtHLbitA s
  | .ldCFAtIXbitA => Sys2Proof.Machine.execLdCFAtIXbitA s
  | .ldCFAtIYbitA => Sys2Proof.Machine.execLdCFAtIYbitA s
  | .ldCFAtIncSPbitA => Sys2Proof.Machine.execLdCFAtIncSPbitA s
  | .ldCFAtHLCbitA => Sys2Proof.Machine.execLdCFAtHLCbitA s
  | .ldCFAtIXdbitA d => Sys2Proof.Machine.execLdCFAtIXdbitA d s
  | .ldCFAtIYdbitA d => Sys2Proof.Machine.execLdCFAtIYdbitA d s
  | .ldCFAtSPdbitA d => Sys2Proof.Machine.execLdCFAtSPdbitA d s
  | .ldCFAtHLdbitA d => Sys2Proof.Machine.execLdCFAtHLdbitA d s
  | .ldCFAtPCAbitA => Sys2Proof.Machine.execLdCFAtPCAbitA s
  | .testAtXbitA x => Sys2Proof.Machine.execTestAtXbitA x s
  | .testAtVWbitA addr => Sys2Proof.Machine.execTestAtVWbitA addr s
  | .testAtDEbitA => Sys2Proof.Machine.execTestAtDEbitA s
  | .testAtHLbitA => Sys2Proof.Machine.execTestAtHLbitA s
  | .testAtIXbitA => Sys2Proof.Machine.execTestAtIXbitA s
  | .testAtIYbitA => Sys2Proof.Machine.execTestAtIYbitA s
  | .testAtIncSPbitA => Sys2Proof.Machine.execTestAtIncSPbitA s
  | .testAtHLCbitA => Sys2Proof.Machine.execTestAtHLCbitA s
  | .testAtIXdbitA d => Sys2Proof.Machine.execTestAtIXdbitA d s
  | .testAtIYdbitA d => Sys2Proof.Machine.execTestAtIYdbitA d s
  | .testAtSPdbitA d => Sys2Proof.Machine.execTestAtSPdbitA d s
  | .testAtHLdbitA d => Sys2Proof.Machine.execTestAtHLdbitA d s
  | .testAtPCAbitA => Sys2Proof.Machine.execTestAtPCAbitA s
  | .callAtX x => Sys2Proof.Machine.execCallAtX x s
  | .callAtVW addr => Sys2Proof.Machine.execCallAtVW addr s
  | .callAtDE => Sys2Proof.Machine.execCallAtDE s
  | .callAtHL => Sys2Proof.Machine.execCallAtHL s
  | .callAtIX => Sys2Proof.Machine.execCallAtIX s
  | .callAtIY => Sys2Proof.Machine.execCallAtIY s
  | .callAtIncSP => Sys2Proof.Machine.execCallAtIncSP s
  | .callAtHLC => Sys2Proof.Machine.execCallAtHLC s
  | .callAtIXd d => Sys2Proof.Machine.execCallAtIXd d s
  | .callAtIYd d => Sys2Proof.Machine.execCallAtIYd d s
  | .callAtSPd d => Sys2Proof.Machine.execCallAtSPd d s
  | .callAtHLd d => Sys2Proof.Machine.execCallAtHLd d s
  | .callAtPCA => Sys2Proof.Machine.execCallAtPCA s
  | .jpAtX x => Sys2Proof.Machine.execJpAtX x s
  | .jpAtVW addr => Sys2Proof.Machine.execJpAtVW addr s
  | .jpAtDE => Sys2Proof.Machine.execJpAtDE s
  | .jpAtHL => Sys2Proof.Machine.execJpAtHL s
  | .jpAtIX => Sys2Proof.Machine.execJpAtIX s
  | .jpAtIY => Sys2Proof.Machine.execJpAtIY s
  | .jpAtIncSP => Sys2Proof.Machine.execJpAtIncSP s
  | .jpAtHLC => Sys2Proof.Machine.execJpAtHLC s
  | .jpAtIXd d => Sys2Proof.Machine.execJpAtIXd d s
  | .jpAtIYd d => Sys2Proof.Machine.execJpAtIYd d s
  | .jpAtSPd d => Sys2Proof.Machine.execJpAtSPd d s
  | .jpAtHLd d => Sys2Proof.Machine.execJpAtHLd d s
  | .jpAtPCA => Sys2Proof.Machine.execJpAtPCA s
  | .ldAtXRR x rr => Sys2Proof.Machine.execLdAtXRR x rr s
  | .ldAtXR x r => Sys2Proof.Machine.execLdAtXR x r s
  | .ldAtXNLong x n => Sys2Proof.Machine.execLdAtXNLong x n s
  | .ldAtVWRR addr rr => Sys2Proof.Machine.execLdAtVWRR addr rr s
  | .ldAtVWR addr r => Sys2Proof.Machine.execLdAtVWR addr r s
  | .ldAtVWN addr n => Sys2Proof.Machine.execLdAtVWN addr n s
  | .ldAtDERR rr => Sys2Proof.Machine.execLdAtDERR rr s
  | .ldAtDER r => Sys2Proof.Machine.execLdAtDER r s
  | .ldAtDEN n => Sys2Proof.Machine.execLdAtDEN n s
  | .ldAtHLRR rr => Sys2Proof.Machine.execLdAtHLRR rr s
  | .ldAtHLR r => Sys2Proof.Machine.execLdAtHLR r s
  | .ldAtHLNLong n => Sys2Proof.Machine.execLdAtHLNLong n s
  | .ldAtIXRR rr => Sys2Proof.Machine.execLdAtIXRR rr s
  | .ldAtIXR r => Sys2Proof.Machine.execLdAtIXR r s
  | .ldAtIXN n => Sys2Proof.Machine.execLdAtIXN n s
  | .ldAtIYRR rr => Sys2Proof.Machine.execLdAtIYRR rr s
  | .ldAtIYR r => Sys2Proof.Machine.execLdAtIYR r s
  | .ldAtIYN n => Sys2Proof.Machine.execLdAtIYN n s
  | .ldAtSPDecRR rr => Sys2Proof.Machine.execLdAtSPDecRR rr s
  | .ldAtSPDecR r => Sys2Proof.Machine.execLdAtSPDecR r s
  | .ldAtSPDecN n => Sys2Proof.Machine.execLdAtSPDecN n s
  | .ldAtHLCRR rr => Sys2Proof.Machine.execLdAtHLCRR rr s
  | .ldAtHLCR r => Sys2Proof.Machine.execLdAtHLCR r s
  | .ldAtHLCN n => Sys2Proof.Machine.execLdAtHLCN n s
  | .ldAtIXdRR d rr => Sys2Proof.Machine.execLdAtIXdRR d rr s
  | .ldAtIXdR d r => Sys2Proof.Machine.execLdAtIXdR d r s
  | .ldAtIXdN d n => Sys2Proof.Machine.execLdAtIXdN d n s
  | .ldAtIYdRR d rr => Sys2Proof.Machine.execLdAtIYdRR d rr s
  | .ldAtIYdR d r => Sys2Proof.Machine.execLdAtIYdR d r s
  | .ldAtIYdN d n => Sys2Proof.Machine.execLdAtIYdN d n s
  | .ldAtSPdRR d rr => Sys2Proof.Machine.execLdAtSPdRR d rr s
  | .ldAtSPdR d r => Sys2Proof.Machine.execLdAtSPdR d r s
  | .ldAtSPdN d n => Sys2Proof.Machine.execLdAtSPdN d n s
  | .ldAtHLdRR d rr => Sys2Proof.Machine.execLdAtHLdRR d rr s
  | .ldAtHLdR d r => Sys2Proof.Machine.execLdAtHLdR d r s
  | .ldAtHLdN d n => Sys2Proof.Machine.execLdAtHLdN d n s

end Sys2Proof.Machine
end

