-- ==== Sys2Proof/Machine/Compiled.lean ====
section
/-!
DEFINITION. The meaning of an operand form: the meaning of the instruction that `Instr.ofForm` gives it, called
without building the instruction, so that Lean can compile a step. `exec_ofForm` proves the two equal.
-/

namespace Sys2Proof.Machine

open Sys2Proof

/-- The meaning of the instruction of a form. -/
def execForm (f : Form) (s : State) : Result :=
  match f with
  | .nop => execNop s
  | .clrCF => execClrCF s
  | .setCF => execSetCF s
  | .cplCF => execCplCF s
  | .cmpXN x n => execCmpAtXN x n s
  | .ldwXMN x mn => execLdwAtXMN x mn s
  | .ldwHLMN mn => execLdwAtHLMN mn s
  | .ldXN x n => execLdAtXN x n s
  | .ldHLN n => execLdAtHLN n s
  | .ldAX x => execLdAAtX x s
  | .ldAHL => execLdAAtHL s
  | .ldXA x => execLdAtXA x s
  | .ldHLA => execLdAtHLA s
  | .ldAR r => execLdAR r s
  | .ldRN r n => execLdRN r n s
  | .incR r => execIncR r s
  | .decR r => execDecR r s
  | .incRR rr => execIncRR rr s
  | .ldSPAdd d => execLdSPAddD d s
  | .decRR rr => execDecRR rr s
  | .ldSPSub d => execLdSPSubD d s
  | .ldRA r => execLdRA r s
  | .ldRRMN rr mn => execLdRRMN rr mn s
  | .pushPair p => execPushRR p s
  | .ldCFXB x b => execLdCFAtXb x b s
  | .aluAN .addc n => execAddcAN n s
  | .aluAN .add n => execAddAN n s
  | .aluAN .subb n => execSubbAN n s
  | .aluAN .sub n => execSubAN n s
  | .aluAN .and n => execAndAN n s
  | .aluAN .xor n => execXorAN n s
  | .aluAN .or n => execOrAN n s
  | .aluAN .cmp n => execCmpAN n s
  | .callv n => execCallvN n s
  | .jrs true d => execJrsT d s
  | .jrs false d => execJrsF d s
  | .setXB x b => execSetAtXb x b s
  | .clrXB x b => execClrAtXb x b s
  | .popPair p => execPopRR p s
  | .jrCC .z d => execJrZ d s
  | .jrCC .nz d => execJrNZ d s
  | .jrCC .cs d => execJrCS d s
  | .jrCC .cc d => execJrCC d s
  | .jrCC .le d => execJrLE d s
  | .jrCC .gt d => execJrGT d s
  | .jrCC .t d => execJrT d s
  | .jrCC .f d => execJrF d s
  | .ldRBS false => execLdRBS0 s
  | .ldRBS true => execLdRBS1 s
  | .ret => execRet s
  | .reti => execReti s
  | .jrA d => execJrA d s
  | .callMN mn => execCallMN mn s
  | .jpMN mn => execJpMN mn s
  | .swi => execSwi s
  | .aluRG .addc r g => execAddcRG r g s
  | .aluRG .add r g => execAddRG r g s
  | .aluRG .subb r g => execSubbRG r g s
  | .aluRG .sub r g => execSubRG r g s
  | .aluRG .and r g => execAndRG r g s
  | .aluRG .xor r g => execXorRG r g s
  | .aluRG .or r g => execOrRG r g s
  | .aluRG .cmp r g => execCmpRG r g s
  | .aluGN .addc g n => execAddcGN g n s
  | .aluGN .add g n => execAddGN g n s
  | .aluGN .subb g n => execSubbGN g n s
  | .aluGN .sub g n => execSubGN g n s
  | .aluGN .and g n => execAndGN g n s
  | .aluGN .xor g n => execXorGN g n s
  | .aluGN .or g n => execOrGN g n s
  | .aluGN .cmp g n => execCmpGN g n s
  | .aluGGMN .addc gg mn => execAddcGGMN gg mn s
  | .aluGGMN .add gg mn => execAddGGMN gg mn s
  | .aluGGMN .subb gg mn => execSubbGGMN gg mn s
  | .aluGGMN .sub gg mn => execSubGGMN gg mn s
  | .aluGGMN .and gg mn => execAndGGMN gg mn s
  | .aluGGMN .xor gg mn => execXorGGMN gg mn s
  | .aluGGMN .or gg mn => execOrGGMN gg mn s
  | .aluGGMN .cmp gg mn => execCmpGGMN gg mn s
  | .aluRRGG .addc rr gg => execAddcRRGG rr gg s
  | .aluRRGG .add rr gg => execAddRRGG rr gg s
  | .aluRRGG .subb rr gg => execSubbRRGG rr gg s
  | .aluRRGG .sub rr gg => execSubRRGG rr gg s
  | .aluRRGG .and rr gg => execAndRRGG rr gg s
  | .aluRRGG .xor rr gg => execXorRRGG rr gg s
  | .aluRRGG .or rr gg => execOrRRGG rr gg s
  | .aluRRGG .cmp rr gg => execCmpRRGG rr gg s
  | .ldRG r g => execLdRG r g s
  | .ldRRGG rr gg => execLdRRGG rr gg s
  | .xorCFGB g b => execXorCFGb g b s
  | .ldCFGB g b => execLdCFGb g b s
  | .xchRG r g => execXchRG r g s
  | .xchRRGG rr gg => execXchRRGG rr gg s
  | .bitGB .set g b => execSetGb g b s
  | .bitGB .clr g b => execClrGb g b s
  | .bitGB .cpl g b => execCplGb g b s
  | .jrCCLong .m d => execJrM d s
  | .jrCCLong .p d => execJrP d s
  | .jrCCLong .slt d => execJrSLT d s
  | .jrCCLong .sge d => execJrSGE d s
  | .jrCCLong .sle d => execJrSLE d s
  | .jrCCLong .sgt d => execJrSGT d s
  | .jrCCLong .vs d => execJrVS d s
  | .jrCCLong .vc d => execJrVC d s
  | .pushIndex .ix => execPushIX s
  | .pushIndex .iy => execPushIY s
  | .popIndex .ix => execPopIX s
  | .popIndex .iy => execPopIY s
  | .daa g => execDaaG g s
  | .das g => execDasG g s
  | .pushPSW => execPushPSW s
  | .popPSW => execPopPSW s
  | .ldPSW n => execLdPSWN n s
  | .ldGBCF g b => execLdGbCF g b s
  | .shift16 .shlca gg => execShlcaGG gg s
  | .shift16 .shrca gg => execShrcaGG gg s
  | .mul .wa => execMulWA s
  | .mul .bc => execMulBC s
  | .mul .de => execMulDE s
  | .mul .hl => execMulHL s
  | .div .wa => execDivWAC s
  | .div .de => execDivDEC s
  | .div .hl => execDivHLC s
  | .shift8 .shlc g => execShlcG g s
  | .shift8 .shrc g => execShrcG g s
  | .shift8 .rolc g => execRolcG g s
  | .shift8 .rorc g => execRorcG g s
  | .negCS gg => execNegCSGG gg s
  | .retn => execRetn s
  | .callGG gg => execCallGG gg s
  | .jpGG gg => execJpGG gg s
  | .swap g => execSwapG g s
  | .aluRSrc .addc r (.x x) => execAddcRAtX r x s
  | .aluRSrc .addc r (.vw addr) => execAddcRAtVW r addr s
  | .aluRSrc .addc r .de => execAddcRAtDE r s
  | .aluRSrc .addc r .hl => execAddcRAtHL r s
  | .aluRSrc .addc r .ix => execAddcRAtIX r s
  | .aluRSrc .addc r .iy => execAddcRAtIY r s
  | .aluRSrc .addc r .incSP => execAddcRAtIncSP r s
  | .aluRSrc .addc r .hlC => execAddcRAtHLC r s
  | .aluRSrc .addc r (.ixd d) => execAddcRAtIXd r d s
  | .aluRSrc .addc r (.iyd d) => execAddcRAtIYd r d s
  | .aluRSrc .addc r (.spd d) => execAddcRAtSPd r d s
  | .aluRSrc .addc r (.hld d) => execAddcRAtHLd r d s
  | .aluRSrc .addc r .pcA => execAddcRAtPCA r s
  | .aluRSrc .add r (.x x) => execAddRAtX r x s
  | .aluRSrc .add r (.vw addr) => execAddRAtVW r addr s
  | .aluRSrc .add r .de => execAddRAtDE r s
  | .aluRSrc .add r .hl => execAddRAtHL r s
  | .aluRSrc .add r .ix => execAddRAtIX r s
  | .aluRSrc .add r .iy => execAddRAtIY r s
  | .aluRSrc .add r .incSP => execAddRAtIncSP r s
  | .aluRSrc .add r .hlC => execAddRAtHLC r s
  | .aluRSrc .add r (.ixd d) => execAddRAtIXd r d s
  | .aluRSrc .add r (.iyd d) => execAddRAtIYd r d s
  | .aluRSrc .add r (.spd d) => execAddRAtSPd r d s
  | .aluRSrc .add r (.hld d) => execAddRAtHLd r d s
  | .aluRSrc .add r .pcA => execAddRAtPCA r s
  | .aluRSrc .subb r (.x x) => execSubbRAtX r x s
  | .aluRSrc .subb r (.vw addr) => execSubbRAtVW r addr s
  | .aluRSrc .subb r .de => execSubbRAtDE r s
  | .aluRSrc .subb r .hl => execSubbRAtHL r s
  | .aluRSrc .subb r .ix => execSubbRAtIX r s
  | .aluRSrc .subb r .iy => execSubbRAtIY r s
  | .aluRSrc .subb r .incSP => execSubbRAtIncSP r s
  | .aluRSrc .subb r .hlC => execSubbRAtHLC r s
  | .aluRSrc .subb r (.ixd d) => execSubbRAtIXd r d s
  | .aluRSrc .subb r (.iyd d) => execSubbRAtIYd r d s
  | .aluRSrc .subb r (.spd d) => execSubbRAtSPd r d s
  | .aluRSrc .subb r (.hld d) => execSubbRAtHLd r d s
  | .aluRSrc .subb r .pcA => execSubbRAtPCA r s
  | .aluRSrc .sub r (.x x) => execSubRAtX r x s
  | .aluRSrc .sub r (.vw addr) => execSubRAtVW r addr s
  | .aluRSrc .sub r .de => execSubRAtDE r s
  | .aluRSrc .sub r .hl => execSubRAtHL r s
  | .aluRSrc .sub r .ix => execSubRAtIX r s
  | .aluRSrc .sub r .iy => execSubRAtIY r s
  | .aluRSrc .sub r .incSP => execSubRAtIncSP r s
  | .aluRSrc .sub r .hlC => execSubRAtHLC r s
  | .aluRSrc .sub r (.ixd d) => execSubRAtIXd r d s
  | .aluRSrc .sub r (.iyd d) => execSubRAtIYd r d s
  | .aluRSrc .sub r (.spd d) => execSubRAtSPd r d s
  | .aluRSrc .sub r (.hld d) => execSubRAtHLd r d s
  | .aluRSrc .sub r .pcA => execSubRAtPCA r s
  | .aluRSrc .and r (.x x) => execAndRAtX r x s
  | .aluRSrc .and r (.vw addr) => execAndRAtVW r addr s
  | .aluRSrc .and r .de => execAndRAtDE r s
  | .aluRSrc .and r .hl => execAndRAtHL r s
  | .aluRSrc .and r .ix => execAndRAtIX r s
  | .aluRSrc .and r .iy => execAndRAtIY r s
  | .aluRSrc .and r .incSP => execAndRAtIncSP r s
  | .aluRSrc .and r .hlC => execAndRAtHLC r s
  | .aluRSrc .and r (.ixd d) => execAndRAtIXd r d s
  | .aluRSrc .and r (.iyd d) => execAndRAtIYd r d s
  | .aluRSrc .and r (.spd d) => execAndRAtSPd r d s
  | .aluRSrc .and r (.hld d) => execAndRAtHLd r d s
  | .aluRSrc .and r .pcA => execAndRAtPCA r s
  | .aluRSrc .xor r (.x x) => execXorRAtX r x s
  | .aluRSrc .xor r (.vw addr) => execXorRAtVW r addr s
  | .aluRSrc .xor r .de => execXorRAtDE r s
  | .aluRSrc .xor r .hl => execXorRAtHL r s
  | .aluRSrc .xor r .ix => execXorRAtIX r s
  | .aluRSrc .xor r .iy => execXorRAtIY r s
  | .aluRSrc .xor r .incSP => execXorRAtIncSP r s
  | .aluRSrc .xor r .hlC => execXorRAtHLC r s
  | .aluRSrc .xor r (.ixd d) => execXorRAtIXd r d s
  | .aluRSrc .xor r (.iyd d) => execXorRAtIYd r d s
  | .aluRSrc .xor r (.spd d) => execXorRAtSPd r d s
  | .aluRSrc .xor r (.hld d) => execXorRAtHLd r d s
  | .aluRSrc .xor r .pcA => execXorRAtPCA r s
  | .aluRSrc .or r (.x x) => execOrRAtX r x s
  | .aluRSrc .or r (.vw addr) => execOrRAtVW r addr s
  | .aluRSrc .or r .de => execOrRAtDE r s
  | .aluRSrc .or r .hl => execOrRAtHL r s
  | .aluRSrc .or r .ix => execOrRAtIX r s
  | .aluRSrc .or r .iy => execOrRAtIY r s
  | .aluRSrc .or r .incSP => execOrRAtIncSP r s
  | .aluRSrc .or r .hlC => execOrRAtHLC r s
  | .aluRSrc .or r (.ixd d) => execOrRAtIXd r d s
  | .aluRSrc .or r (.iyd d) => execOrRAtIYd r d s
  | .aluRSrc .or r (.spd d) => execOrRAtSPd r d s
  | .aluRSrc .or r (.hld d) => execOrRAtHLd r d s
  | .aluRSrc .or r .pcA => execOrRAtPCA r s
  | .aluRSrc .cmp r (.x x) => execCmpRAtX r x s
  | .aluRSrc .cmp r (.vw addr) => execCmpRAtVW r addr s
  | .aluRSrc .cmp r .de => execCmpRAtDE r s
  | .aluRSrc .cmp r .hl => execCmpRAtHL r s
  | .aluRSrc .cmp r .ix => execCmpRAtIX r s
  | .aluRSrc .cmp r .iy => execCmpRAtIY r s
  | .aluRSrc .cmp r .incSP => execCmpRAtIncSP r s
  | .aluRSrc .cmp r .hlC => execCmpRAtHLC r s
  | .aluRSrc .cmp r (.ixd d) => execCmpRAtIXd r d s
  | .aluRSrc .cmp r (.iyd d) => execCmpRAtIYd r d s
  | .aluRSrc .cmp r (.spd d) => execCmpRAtSPd r d s
  | .aluRSrc .cmp r (.hld d) => execCmpRAtHLd r d s
  | .aluRSrc .cmp r .pcA => execCmpRAtPCA r s
  | .aluSrcN .addc (.x x) n => execAddcAtXN x n s
  | .aluSrcN .addc (.vw addr) n => execAddcAtVWN addr n s
  | .aluSrcN .addc .de n => execAddcAtDEN n s
  | .aluSrcN .addc .hl n => execAddcAtHLN n s
  | .aluSrcN .addc .ix n => execAddcAtIXN n s
  | .aluSrcN .addc .iy n => execAddcAtIYN n s
  | .aluSrcN .addc .incSP n => execAddcAtIncSPN n s
  | .aluSrcN .addc .hlC n => execAddcAtHLCN n s
  | .aluSrcN .addc (.ixd d) n => execAddcAtIXdN d n s
  | .aluSrcN .addc (.iyd d) n => execAddcAtIYdN d n s
  | .aluSrcN .addc (.spd d) n => execAddcAtSPdN d n s
  | .aluSrcN .addc (.hld d) n => execAddcAtHLdN d n s
  | .aluSrcN .addc .pcA n => execAddcAtPCAN n s
  | .aluSrcN .add (.x x) n => execAddAtXN x n s
  | .aluSrcN .add (.vw addr) n => execAddAtVWN addr n s
  | .aluSrcN .add .de n => execAddAtDEN n s
  | .aluSrcN .add .hl n => execAddAtHLN n s
  | .aluSrcN .add .ix n => execAddAtIXN n s
  | .aluSrcN .add .iy n => execAddAtIYN n s
  | .aluSrcN .add .incSP n => execAddAtIncSPN n s
  | .aluSrcN .add .hlC n => execAddAtHLCN n s
  | .aluSrcN .add (.ixd d) n => execAddAtIXdN d n s
  | .aluSrcN .add (.iyd d) n => execAddAtIYdN d n s
  | .aluSrcN .add (.spd d) n => execAddAtSPdN d n s
  | .aluSrcN .add (.hld d) n => execAddAtHLdN d n s
  | .aluSrcN .add .pcA n => execAddAtPCAN n s
  | .aluSrcN .subb (.x x) n => execSubbAtXN x n s
  | .aluSrcN .subb (.vw addr) n => execSubbAtVWN addr n s
  | .aluSrcN .subb .de n => execSubbAtDEN n s
  | .aluSrcN .subb .hl n => execSubbAtHLN n s
  | .aluSrcN .subb .ix n => execSubbAtIXN n s
  | .aluSrcN .subb .iy n => execSubbAtIYN n s
  | .aluSrcN .subb .incSP n => execSubbAtIncSPN n s
  | .aluSrcN .subb .hlC n => execSubbAtHLCN n s
  | .aluSrcN .subb (.ixd d) n => execSubbAtIXdN d n s
  | .aluSrcN .subb (.iyd d) n => execSubbAtIYdN d n s
  | .aluSrcN .subb (.spd d) n => execSubbAtSPdN d n s
  | .aluSrcN .subb (.hld d) n => execSubbAtHLdN d n s
  | .aluSrcN .subb .pcA n => execSubbAtPCAN n s
  | .aluSrcN .sub (.x x) n => execSubAtXN x n s
  | .aluSrcN .sub (.vw addr) n => execSubAtVWN addr n s
  | .aluSrcN .sub .de n => execSubAtDEN n s
  | .aluSrcN .sub .hl n => execSubAtHLN n s
  | .aluSrcN .sub .ix n => execSubAtIXN n s
  | .aluSrcN .sub .iy n => execSubAtIYN n s
  | .aluSrcN .sub .incSP n => execSubAtIncSPN n s
  | .aluSrcN .sub .hlC n => execSubAtHLCN n s
  | .aluSrcN .sub (.ixd d) n => execSubAtIXdN d n s
  | .aluSrcN .sub (.iyd d) n => execSubAtIYdN d n s
  | .aluSrcN .sub (.spd d) n => execSubAtSPdN d n s
  | .aluSrcN .sub (.hld d) n => execSubAtHLdN d n s
  | .aluSrcN .sub .pcA n => execSubAtPCAN n s
  | .aluSrcN .and (.x x) n => execAndAtXN x n s
  | .aluSrcN .and (.vw addr) n => execAndAtVWN addr n s
  | .aluSrcN .and .de n => execAndAtDEN n s
  | .aluSrcN .and .hl n => execAndAtHLN n s
  | .aluSrcN .and .ix n => execAndAtIXN n s
  | .aluSrcN .and .iy n => execAndAtIYN n s
  | .aluSrcN .and .incSP n => execAndAtIncSPN n s
  | .aluSrcN .and .hlC n => execAndAtHLCN n s
  | .aluSrcN .and (.ixd d) n => execAndAtIXdN d n s
  | .aluSrcN .and (.iyd d) n => execAndAtIYdN d n s
  | .aluSrcN .and (.spd d) n => execAndAtSPdN d n s
  | .aluSrcN .and (.hld d) n => execAndAtHLdN d n s
  | .aluSrcN .and .pcA n => execAndAtPCAN n s
  | .aluSrcN .xor (.x x) n => execXorAtXN x n s
  | .aluSrcN .xor (.vw addr) n => execXorAtVWN addr n s
  | .aluSrcN .xor .de n => execXorAtDEN n s
  | .aluSrcN .xor .hl n => execXorAtHLN n s
  | .aluSrcN .xor .ix n => execXorAtIXN n s
  | .aluSrcN .xor .iy n => execXorAtIYN n s
  | .aluSrcN .xor .incSP n => execXorAtIncSPN n s
  | .aluSrcN .xor .hlC n => execXorAtHLCN n s
  | .aluSrcN .xor (.ixd d) n => execXorAtIXdN d n s
  | .aluSrcN .xor (.iyd d) n => execXorAtIYdN d n s
  | .aluSrcN .xor (.spd d) n => execXorAtSPdN d n s
  | .aluSrcN .xor (.hld d) n => execXorAtHLdN d n s
  | .aluSrcN .xor .pcA n => execXorAtPCAN n s
  | .aluSrcN .or (.x x) n => execOrAtXN x n s
  | .aluSrcN .or (.vw addr) n => execOrAtVWN addr n s
  | .aluSrcN .or .de n => execOrAtDEN n s
  | .aluSrcN .or .hl n => execOrAtHLN n s
  | .aluSrcN .or .ix n => execOrAtIXN n s
  | .aluSrcN .or .iy n => execOrAtIYN n s
  | .aluSrcN .or .incSP n => execOrAtIncSPN n s
  | .aluSrcN .or .hlC n => execOrAtHLCN n s
  | .aluSrcN .or (.ixd d) n => execOrAtIXdN d n s
  | .aluSrcN .or (.iyd d) n => execOrAtIYdN d n s
  | .aluSrcN .or (.spd d) n => execOrAtSPdN d n s
  | .aluSrcN .or (.hld d) n => execOrAtHLdN d n s
  | .aluSrcN .or .pcA n => execOrAtPCAN n s
  | .aluSrcN .cmp (.x x) n => execCmpAtXNLong x n s
  | .aluSrcN .cmp (.vw addr) n => execCmpAtVWN addr n s
  | .aluSrcN .cmp .de n => execCmpAtDEN n s
  | .aluSrcN .cmp .hl n => execCmpAtHLN n s
  | .aluSrcN .cmp .ix n => execCmpAtIXN n s
  | .aluSrcN .cmp .iy n => execCmpAtIYN n s
  | .aluSrcN .cmp .incSP n => execCmpAtIncSPN n s
  | .aluSrcN .cmp .hlC n => execCmpAtHLCN n s
  | .aluSrcN .cmp (.ixd d) n => execCmpAtIXdN d n s
  | .aluSrcN .cmp (.iyd d) n => execCmpAtIYdN d n s
  | .aluSrcN .cmp (.spd d) n => execCmpAtSPdN d n s
  | .aluSrcN .cmp (.hld d) n => execCmpAtHLdN d n s
  | .aluSrcN .cmp .pcA n => execCmpAtPCAN n s
  | .aluRRSrc .addc rr (.x x) => execAddcRRAtX rr x s
  | .aluRRSrc .addc rr (.vw addr) => execAddcRRAtVW rr addr s
  | .aluRRSrc .addc rr .de => execAddcRRAtDE rr s
  | .aluRRSrc .addc rr .hl => execAddcRRAtHL rr s
  | .aluRRSrc .addc rr .ix => execAddcRRAtIX rr s
  | .aluRRSrc .addc rr .iy => execAddcRRAtIY rr s
  | .aluRRSrc .addc rr .incSP => execAddcRRAtIncSP rr s
  | .aluRRSrc .addc rr .hlC => execAddcRRAtHLC rr s
  | .aluRRSrc .addc rr (.ixd d) => execAddcRRAtIXd rr d s
  | .aluRRSrc .addc rr (.iyd d) => execAddcRRAtIYd rr d s
  | .aluRRSrc .addc rr (.spd d) => execAddcRRAtSPd rr d s
  | .aluRRSrc .addc rr (.hld d) => execAddcRRAtHLd rr d s
  | .aluRRSrc .addc rr .pcA => execAddcRRAtPCA rr s
  | .aluRRSrc .add rr (.x x) => execAddRRAtX rr x s
  | .aluRRSrc .add rr (.vw addr) => execAddRRAtVW rr addr s
  | .aluRRSrc .add rr .de => execAddRRAtDE rr s
  | .aluRRSrc .add rr .hl => execAddRRAtHL rr s
  | .aluRRSrc .add rr .ix => execAddRRAtIX rr s
  | .aluRRSrc .add rr .iy => execAddRRAtIY rr s
  | .aluRRSrc .add rr .incSP => execAddRRAtIncSP rr s
  | .aluRRSrc .add rr .hlC => execAddRRAtHLC rr s
  | .aluRRSrc .add rr (.ixd d) => execAddRRAtIXd rr d s
  | .aluRRSrc .add rr (.iyd d) => execAddRRAtIYd rr d s
  | .aluRRSrc .add rr (.spd d) => execAddRRAtSPd rr d s
  | .aluRRSrc .add rr (.hld d) => execAddRRAtHLd rr d s
  | .aluRRSrc .add rr .pcA => execAddRRAtPCA rr s
  | .aluRRSrc .subb rr (.x x) => execSubbRRAtX rr x s
  | .aluRRSrc .subb rr (.vw addr) => execSubbRRAtVW rr addr s
  | .aluRRSrc .subb rr .de => execSubbRRAtDE rr s
  | .aluRRSrc .subb rr .hl => execSubbRRAtHL rr s
  | .aluRRSrc .subb rr .ix => execSubbRRAtIX rr s
  | .aluRRSrc .subb rr .iy => execSubbRRAtIY rr s
  | .aluRRSrc .subb rr .incSP => execSubbRRAtIncSP rr s
  | .aluRRSrc .subb rr .hlC => execSubbRRAtHLC rr s
  | .aluRRSrc .subb rr (.ixd d) => execSubbRRAtIXd rr d s
  | .aluRRSrc .subb rr (.iyd d) => execSubbRRAtIYd rr d s
  | .aluRRSrc .subb rr (.spd d) => execSubbRRAtSPd rr d s
  | .aluRRSrc .subb rr (.hld d) => execSubbRRAtHLd rr d s
  | .aluRRSrc .subb rr .pcA => execSubbRRAtPCA rr s
  | .aluRRSrc .sub rr (.x x) => execSubRRAtX rr x s
  | .aluRRSrc .sub rr (.vw addr) => execSubRRAtVW rr addr s
  | .aluRRSrc .sub rr .de => execSubRRAtDE rr s
  | .aluRRSrc .sub rr .hl => execSubRRAtHL rr s
  | .aluRRSrc .sub rr .ix => execSubRRAtIX rr s
  | .aluRRSrc .sub rr .iy => execSubRRAtIY rr s
  | .aluRRSrc .sub rr .incSP => execSubRRAtIncSP rr s
  | .aluRRSrc .sub rr .hlC => execSubRRAtHLC rr s
  | .aluRRSrc .sub rr (.ixd d) => execSubRRAtIXd rr d s
  | .aluRRSrc .sub rr (.iyd d) => execSubRRAtIYd rr d s
  | .aluRRSrc .sub rr (.spd d) => execSubRRAtSPd rr d s
  | .aluRRSrc .sub rr (.hld d) => execSubRRAtHLd rr d s
  | .aluRRSrc .sub rr .pcA => execSubRRAtPCA rr s
  | .aluRRSrc .and rr (.x x) => execAndRRAtX rr x s
  | .aluRRSrc .and rr (.vw addr) => execAndRRAtVW rr addr s
  | .aluRRSrc .and rr .de => execAndRRAtDE rr s
  | .aluRRSrc .and rr .hl => execAndRRAtHL rr s
  | .aluRRSrc .and rr .ix => execAndRRAtIX rr s
  | .aluRRSrc .and rr .iy => execAndRRAtIY rr s
  | .aluRRSrc .and rr .incSP => execAndRRAtIncSP rr s
  | .aluRRSrc .and rr .hlC => execAndRRAtHLC rr s
  | .aluRRSrc .and rr (.ixd d) => execAndRRAtIXd rr d s
  | .aluRRSrc .and rr (.iyd d) => execAndRRAtIYd rr d s
  | .aluRRSrc .and rr (.spd d) => execAndRRAtSPd rr d s
  | .aluRRSrc .and rr (.hld d) => execAndRRAtHLd rr d s
  | .aluRRSrc .and rr .pcA => execAndRRAtPCA rr s
  | .aluRRSrc .xor rr (.x x) => execXorRRAtX rr x s
  | .aluRRSrc .xor rr (.vw addr) => execXorRRAtVW rr addr s
  | .aluRRSrc .xor rr .de => execXorRRAtDE rr s
  | .aluRRSrc .xor rr .hl => execXorRRAtHL rr s
  | .aluRRSrc .xor rr .ix => execXorRRAtIX rr s
  | .aluRRSrc .xor rr .iy => execXorRRAtIY rr s
  | .aluRRSrc .xor rr .incSP => execXorRRAtIncSP rr s
  | .aluRRSrc .xor rr .hlC => execXorRRAtHLC rr s
  | .aluRRSrc .xor rr (.ixd d) => execXorRRAtIXd rr d s
  | .aluRRSrc .xor rr (.iyd d) => execXorRRAtIYd rr d s
  | .aluRRSrc .xor rr (.spd d) => execXorRRAtSPd rr d s
  | .aluRRSrc .xor rr (.hld d) => execXorRRAtHLd rr d s
  | .aluRRSrc .xor rr .pcA => execXorRRAtPCA rr s
  | .aluRRSrc .or rr (.x x) => execOrRRAtX rr x s
  | .aluRRSrc .or rr (.vw addr) => execOrRRAtVW rr addr s
  | .aluRRSrc .or rr .de => execOrRRAtDE rr s
  | .aluRRSrc .or rr .hl => execOrRRAtHL rr s
  | .aluRRSrc .or rr .ix => execOrRRAtIX rr s
  | .aluRRSrc .or rr .iy => execOrRRAtIY rr s
  | .aluRRSrc .or rr .incSP => execOrRRAtIncSP rr s
  | .aluRRSrc .or rr .hlC => execOrRRAtHLC rr s
  | .aluRRSrc .or rr (.ixd d) => execOrRRAtIXd rr d s
  | .aluRRSrc .or rr (.iyd d) => execOrRRAtIYd rr d s
  | .aluRRSrc .or rr (.spd d) => execOrRRAtSPd rr d s
  | .aluRRSrc .or rr (.hld d) => execOrRRAtHLd rr d s
  | .aluRRSrc .or rr .pcA => execOrRRAtPCA rr s
  | .aluRRSrc .cmp rr (.x x) => execCmpRRAtX rr x s
  | .aluRRSrc .cmp rr (.vw addr) => execCmpRRAtVW rr addr s
  | .aluRRSrc .cmp rr .de => execCmpRRAtDE rr s
  | .aluRRSrc .cmp rr .hl => execCmpRRAtHL rr s
  | .aluRRSrc .cmp rr .ix => execCmpRRAtIX rr s
  | .aluRRSrc .cmp rr .iy => execCmpRRAtIY rr s
  | .aluRRSrc .cmp rr .incSP => execCmpRRAtIncSP rr s
  | .aluRRSrc .cmp rr .hlC => execCmpRRAtHLC rr s
  | .aluRRSrc .cmp rr (.ixd d) => execCmpRRAtIXd rr d s
  | .aluRRSrc .cmp rr (.iyd d) => execCmpRRAtIYd rr d s
  | .aluRRSrc .cmp rr (.spd d) => execCmpRRAtSPd rr d s
  | .aluRRSrc .cmp rr (.hld d) => execCmpRRAtHLd rr d s
  | .aluRRSrc .cmp rr .pcA => execCmpRRAtPCA rr s
  | .ldRSrc r (.x x) => execLdRAtX r x s
  | .ldRSrc r (.vw addr) => execLdRAtVW r addr s
  | .ldRSrc r .de => execLdRAtDE r s
  | .ldRSrc r .hl => execLdRAtHL r s
  | .ldRSrc r .ix => execLdRAtIX r s
  | .ldRSrc r .iy => execLdRAtIY r s
  | .ldRSrc r .incSP => execLdRAtIncSP r s
  | .ldRSrc r .hlC => execLdRAtHLC r s
  | .ldRSrc r (.ixd d) => execLdRAtIXd r d s
  | .ldRSrc r (.iyd d) => execLdRAtIYd r d s
  | .ldRSrc r (.spd d) => execLdRAtSPd r d s
  | .ldRSrc r (.hld d) => execLdRAtHLd r d s
  | .ldRSrc r .pcA => execLdRAtPCA r s
  | .ldRRSrc rr (.x x) => execLdRRAtX rr x s
  | .ldRRSrc rr (.vw addr) => execLdRRAtVW rr addr s
  | .ldRRSrc rr .de => execLdRRAtDE rr s
  | .ldRRSrc rr .hl => execLdRRAtHL rr s
  | .ldRRSrc rr .ix => execLdRRAtIX rr s
  | .ldRRSrc rr .iy => execLdRRAtIY rr s
  | .ldRRSrc rr .incSP => execLdRRAtIncSP rr s
  | .ldRRSrc rr .hlC => execLdRRAtHLC rr s
  | .ldRRSrc rr (.ixd d) => execLdRRAtIXd rr d s
  | .ldRRSrc rr (.iyd d) => execLdRRAtIYd rr d s
  | .ldRRSrc rr (.spd d) => execLdRRAtSPd rr d s
  | .ldRRSrc rr (.hld d) => execLdRRAtHLd rr d s
  | .ldRRSrc rr .pcA => execLdRRAtPCA rr s
  | .xorCFSrcB (.x x) b => execXorCFAtXb x b s
  | .xorCFSrcB (.vw addr) b => execXorCFAtVWb addr b s
  | .xorCFSrcB .de b => execXorCFAtDEb b s
  | .xorCFSrcB .hl b => execXorCFAtHLb b s
  | .xorCFSrcB .ix b => execXorCFAtIXb b s
  | .xorCFSrcB .iy b => execXorCFAtIYb b s
  | .xorCFSrcB .incSP b => execXorCFAtIncSPb b s
  | .xorCFSrcB .hlC b => execXorCFAtHLCb b s
  | .xorCFSrcB (.ixd d) b => execXorCFAtIXdb d b s
  | .xorCFSrcB (.iyd d) b => execXorCFAtIYdb d b s
  | .xorCFSrcB (.spd d) b => execXorCFAtSPdb d b s
  | .xorCFSrcB (.hld d) b => execXorCFAtHLdb d b s
  | .xorCFSrcB .pcA b => execXorCFAtPCAb b s
  | .ldCFSrcB (.x x) b => execLdCFAtXbLong x b s
  | .ldCFSrcB (.vw addr) b => execLdCFAtVWb addr b s
  | .ldCFSrcB .de b => execLdCFAtDEb b s
  | .ldCFSrcB .hl b => execLdCFAtHLb b s
  | .ldCFSrcB .ix b => execLdCFAtIXb b s
  | .ldCFSrcB .iy b => execLdCFAtIYb b s
  | .ldCFSrcB .incSP b => execLdCFAtIncSPb b s
  | .ldCFSrcB .hlC b => execLdCFAtHLCb b s
  | .ldCFSrcB (.ixd d) b => execLdCFAtIXdb d b s
  | .ldCFSrcB (.iyd d) b => execLdCFAtIYdb d b s
  | .ldCFSrcB (.spd d) b => execLdCFAtSPdb d b s
  | .ldCFSrcB (.hld d) b => execLdCFAtHLdb d b s
  | .ldCFSrcB .pcA b => execLdCFAtPCAb b s
  | .xchRSrc r (.x x) => execXchRAtX r x s
  | .xchRSrc r (.vw addr) => execXchRAtVW r addr s
  | .xchRSrc r .de => execXchRAtDE r s
  | .xchRSrc r .hl => execXchRAtHL r s
  | .xchRSrc r .ix => execXchRAtIX r s
  | .xchRSrc r .iy => execXchRAtIY r s
  | .xchRSrc r .incSP => execXchRAtIncSP r s
  | .xchRSrc r .hlC => execXchRAtHLC r s
  | .xchRSrc r (.ixd d) => execXchRAtIXd r d s
  | .xchRSrc r (.iyd d) => execXchRAtIYd r d s
  | .xchRSrc r (.spd d) => execXchRAtSPd r d s
  | .xchRSrc r (.hld d) => execXchRAtHLd r d s
  | .xchRSrc r .pcA => execXchRAtPCA r s
  | .bitSrcB .set (.x x) b => execSetAtXbLong x b s
  | .bitSrcB .set (.vw addr) b => execSetAtVWb addr b s
  | .bitSrcB .set .de b => execSetAtDEb b s
  | .bitSrcB .set .hl b => execSetAtHLb b s
  | .bitSrcB .set .ix b => execSetAtIXb b s
  | .bitSrcB .set .iy b => execSetAtIYb b s
  | .bitSrcB .set .incSP b => execSetAtIncSPb b s
  | .bitSrcB .set .hlC b => execSetAtHLCb b s
  | .bitSrcB .set (.ixd d) b => execSetAtIXdb d b s
  | .bitSrcB .set (.iyd d) b => execSetAtIYdb d b s
  | .bitSrcB .set (.spd d) b => execSetAtSPdb d b s
  | .bitSrcB .set (.hld d) b => execSetAtHLdb d b s
  | .bitSrcB .set .pcA b => execSetAtPCAb b s
  | .bitSrcB .clr (.x x) b => execClrAtXbLong x b s
  | .bitSrcB .clr (.vw addr) b => execClrAtVWb addr b s
  | .bitSrcB .clr .de b => execClrAtDEb b s
  | .bitSrcB .clr .hl b => execClrAtHLb b s
  | .bitSrcB .clr .ix b => execClrAtIXb b s
  | .bitSrcB .clr .iy b => execClrAtIYb b s
  | .bitSrcB .clr .incSP b => execClrAtIncSPb b s
  | .bitSrcB .clr .hlC b => execClrAtHLCb b s
  | .bitSrcB .clr (.ixd d) b => execClrAtIXdb d b s
  | .bitSrcB .clr (.iyd d) b => execClrAtIYdb d b s
  | .bitSrcB .clr (.spd d) b => execClrAtSPdb d b s
  | .bitSrcB .clr (.hld d) b => execClrAtHLdb d b s
  | .bitSrcB .clr .pcA b => execClrAtPCAb b s
  | .bitSrcB .cpl (.x x) b => execCplAtXb x b s
  | .bitSrcB .cpl (.vw addr) b => execCplAtVWb addr b s
  | .bitSrcB .cpl .de b => execCplAtDEb b s
  | .bitSrcB .cpl .hl b => execCplAtHLb b s
  | .bitSrcB .cpl .ix b => execCplAtIXb b s
  | .bitSrcB .cpl .iy b => execCplAtIYb b s
  | .bitSrcB .cpl .incSP b => execCplAtIncSPb b s
  | .bitSrcB .cpl .hlC b => execCplAtHLCb b s
  | .bitSrcB .cpl (.ixd d) b => execCplAtIXdb d b s
  | .bitSrcB .cpl (.iyd d) b => execCplAtIYdb d b s
  | .bitSrcB .cpl (.spd d) b => execCplAtSPdb d b s
  | .bitSrcB .cpl (.hld d) b => execCplAtHLdb d b s
  | .bitSrcB .cpl .pcA b => execCplAtPCAb b s
  | .xchRRSrc rr (.x x) => execXchRRAtX rr x s
  | .xchRRSrc rr (.vw addr) => execXchRRAtVW rr addr s
  | .xchRRSrc rr .de => execXchRRAtDE rr s
  | .xchRRSrc rr .hl => execXchRRAtHL rr s
  | .xchRRSrc rr .ix => execXchRRAtIX rr s
  | .xchRRSrc rr .iy => execXchRRAtIY rr s
  | .xchRRSrc rr .incSP => execXchRRAtIncSP rr s
  | .xchRRSrc rr .hlC => execXchRRAtHLC rr s
  | .xchRRSrc rr (.ixd d) => execXchRRAtIXd rr d s
  | .xchRRSrc rr (.iyd d) => execXchRRAtIYd rr d s
  | .xchRRSrc rr (.spd d) => execXchRRAtSPd rr d s
  | .xchRRSrc rr (.hld d) => execXchRRAtHLd rr d s
  | .xchRRSrc rr .pcA => execXchRRAtPCA rr s
  | .ldSrcBCF (.x x) b => execLdAtXbCF x b s
  | .ldSrcBCF (.vw addr) b => execLdAtVWbCF addr b s
  | .ldSrcBCF .de b => execLdAtDEbCF b s
  | .ldSrcBCF .hl b => execLdAtHLbCF b s
  | .ldSrcBCF .ix b => execLdAtIXbCF b s
  | .ldSrcBCF .iy b => execLdAtIYbCF b s
  | .ldSrcBCF .incSP b => execLdAtIncSPbCF b s
  | .ldSrcBCF .hlC b => execLdAtHLCbCF b s
  | .ldSrcBCF (.ixd d) b => execLdAtIXdbCF d b s
  | .ldSrcBCF (.iyd d) b => execLdAtIYdbCF d b s
  | .ldSrcBCF (.spd d) b => execLdAtSPdbCF d b s
  | .ldSrcBCF (.hld d) b => execLdAtHLdbCF d b s
  | .ldSrcBCF .pcA b => execLdAtPCAbCF b s
  | .incSrc (.x x) => execIncAtX x s
  | .incSrc (.vw addr) => execIncAtVW addr s
  | .incSrc .de => execIncAtDE s
  | .incSrc .hl => execIncAtHL s
  | .incSrc .ix => execIncAtIX s
  | .incSrc .iy => execIncAtIY s
  | .incSrc .incSP => execIncAtIncSP s
  | .incSrc .hlC => execIncAtHLC s
  | .incSrc (.ixd d) => execIncAtIXd d s
  | .incSrc (.iyd d) => execIncAtIYd d s
  | .incSrc (.spd d) => execIncAtSPd d s
  | .incSrc (.hld d) => execIncAtHLd d s
  | .incSrc .pcA => execIncAtPCA s
  | .bitSrcA .set (.x x) => execSetAtXbitA x s
  | .bitSrcA .set (.vw addr) => execSetAtVWbitA addr s
  | .bitSrcA .set .de => execSetAtDEbitA s
  | .bitSrcA .set .hl => execSetAtHLbitA s
  | .bitSrcA .set .ix => execSetAtIXbitA s
  | .bitSrcA .set .iy => execSetAtIYbitA s
  | .bitSrcA .set .incSP => execSetAtIncSPbitA s
  | .bitSrcA .set .hlC => execSetAtHLCbitA s
  | .bitSrcA .set (.ixd d) => execSetAtIXdbitA d s
  | .bitSrcA .set (.iyd d) => execSetAtIYdbitA d s
  | .bitSrcA .set (.spd d) => execSetAtSPdbitA d s
  | .bitSrcA .set (.hld d) => execSetAtHLdbitA d s
  | .bitSrcA .set .pcA => execSetAtPCAbitA s
  | .bitSrcA .clr (.x x) => execClrAtXbitA x s
  | .bitSrcA .clr (.vw addr) => execClrAtVWbitA addr s
  | .bitSrcA .clr .de => execClrAtDEbitA s
  | .bitSrcA .clr .hl => execClrAtHLbitA s
  | .bitSrcA .clr .ix => execClrAtIXbitA s
  | .bitSrcA .clr .iy => execClrAtIYbitA s
  | .bitSrcA .clr .incSP => execClrAtIncSPbitA s
  | .bitSrcA .clr .hlC => execClrAtHLCbitA s
  | .bitSrcA .clr (.ixd d) => execClrAtIXdbitA d s
  | .bitSrcA .clr (.iyd d) => execClrAtIYdbitA d s
  | .bitSrcA .clr (.spd d) => execClrAtSPdbitA d s
  | .bitSrcA .clr (.hld d) => execClrAtHLdbitA d s
  | .bitSrcA .clr .pcA => execClrAtPCAbitA s
  | .bitSrcA .cpl (.x x) => execCplAtXbitA x s
  | .bitSrcA .cpl (.vw addr) => execCplAtVWbitA addr s
  | .bitSrcA .cpl .de => execCplAtDEbitA s
  | .bitSrcA .cpl .hl => execCplAtHLbitA s
  | .bitSrcA .cpl .ix => execCplAtIXbitA s
  | .bitSrcA .cpl .iy => execCplAtIYbitA s
  | .bitSrcA .cpl .incSP => execCplAtIncSPbitA s
  | .bitSrcA .cpl .hlC => execCplAtHLCbitA s
  | .bitSrcA .cpl (.ixd d) => execCplAtIXdbitA d s
  | .bitSrcA .cpl (.iyd d) => execCplAtIYdbitA d s
  | .bitSrcA .cpl (.spd d) => execCplAtSPdbitA d s
  | .bitSrcA .cpl (.hld d) => execCplAtHLdbitA d s
  | .bitSrcA .cpl .pcA => execCplAtPCAbitA s
  | .ldSrcACF (.x x) => execLdAtXbitACF x s
  | .ldSrcACF (.vw addr) => execLdAtVWbitACF addr s
  | .ldSrcACF .de => execLdAtDEbitACF s
  | .ldSrcACF .hl => execLdAtHLbitACF s
  | .ldSrcACF .ix => execLdAtIXbitACF s
  | .ldSrcACF .iy => execLdAtIYbitACF s
  | .ldSrcACF .incSP => execLdAtIncSPbitACF s
  | .ldSrcACF .hlC => execLdAtHLCbitACF s
  | .ldSrcACF (.ixd d) => execLdAtIXdbitACF d s
  | .ldSrcACF (.iyd d) => execLdAtIYdbitACF d s
  | .ldSrcACF (.spd d) => execLdAtSPdbitACF d s
  | .ldSrcACF (.hld d) => execLdAtHLdbitACF d s
  | .ldSrcACF .pcA => execLdAtPCAbitACF s
  | .rold (.x x) => execRoldAAtX x s
  | .rold (.vw addr) => execRoldAAtVW addr s
  | .rold .de => execRoldAAtDE s
  | .rold .hl => execRoldAAtHL s
  | .rold .ix => execRoldAAtIX s
  | .rold .iy => execRoldAAtIY s
  | .rold .incSP => execRoldAAtIncSP s
  | .rold .hlC => execRoldAAtHLC s
  | .rold (.ixd d) => execRoldAAtIXd d s
  | .rold (.iyd d) => execRoldAAtIYd d s
  | .rold (.spd d) => execRoldAAtSPd d s
  | .rold (.hld d) => execRoldAAtHLd d s
  | .rold .pcA => execRoldAAtPCA s
  | .rord (.x x) => execRordAAtX x s
  | .rord (.vw addr) => execRordAAtVW addr s
  | .rord .de => execRordAAtDE s
  | .rord .hl => execRordAAtHL s
  | .rord .ix => execRordAAtIX s
  | .rord .iy => execRordAAtIY s
  | .rord .incSP => execRordAAtIncSP s
  | .rord .hlC => execRordAAtHLC s
  | .rord (.ixd d) => execRordAAtIXd d s
  | .rord (.iyd d) => execRordAAtIYd d s
  | .rord (.spd d) => execRordAAtSPd d s
  | .rord (.hld d) => execRordAAtHLd d s
  | .rord .pcA => execRordAAtPCA s
  | .decSrc (.x x) => execDecAtX x s
  | .decSrc (.vw addr) => execDecAtVW addr s
  | .decSrc .de => execDecAtDE s
  | .decSrc .hl => execDecAtHL s
  | .decSrc .ix => execDecAtIX s
  | .decSrc .iy => execDecAtIY s
  | .decSrc .incSP => execDecAtIncSP s
  | .decSrc .hlC => execDecAtHLC s
  | .decSrc (.ixd d) => execDecAtIXd d s
  | .decSrc (.iyd d) => execDecAtIYd d s
  | .decSrc (.spd d) => execDecAtSPd d s
  | .decSrc (.hld d) => execDecAtHLd d s
  | .decSrc .pcA => execDecAtPCA s
  | .ldCFSrcA (.x x) => execLdCFAtXbitA x s
  | .ldCFSrcA (.vw addr) => execLdCFAtVWbitA addr s
  | .ldCFSrcA .de => execLdCFAtDEbitA s
  | .ldCFSrcA .hl => execLdCFAtHLbitA s
  | .ldCFSrcA .ix => execLdCFAtIXbitA s
  | .ldCFSrcA .iy => execLdCFAtIYbitA s
  | .ldCFSrcA .incSP => execLdCFAtIncSPbitA s
  | .ldCFSrcA .hlC => execLdCFAtHLCbitA s
  | .ldCFSrcA (.ixd d) => execLdCFAtIXdbitA d s
  | .ldCFSrcA (.iyd d) => execLdCFAtIYdbitA d s
  | .ldCFSrcA (.spd d) => execLdCFAtSPdbitA d s
  | .ldCFSrcA (.hld d) => execLdCFAtHLdbitA d s
  | .ldCFSrcA .pcA => execLdCFAtPCAbitA s
  | .callSrc (.x x) => execCallAtX x s
  | .callSrc (.vw addr) => execCallAtVW addr s
  | .callSrc .de => execCallAtDE s
  | .callSrc .hl => execCallAtHL s
  | .callSrc .ix => execCallAtIX s
  | .callSrc .iy => execCallAtIY s
  | .callSrc .incSP => execCallAtIncSP s
  | .callSrc .hlC => execCallAtHLC s
  | .callSrc (.ixd d) => execCallAtIXd d s
  | .callSrc (.iyd d) => execCallAtIYd d s
  | .callSrc (.spd d) => execCallAtSPd d s
  | .callSrc (.hld d) => execCallAtHLd d s
  | .callSrc .pcA => execCallAtPCA s
  | .jpSrc (.x x) => execJpAtX x s
  | .jpSrc (.vw addr) => execJpAtVW addr s
  | .jpSrc .de => execJpAtDE s
  | .jpSrc .hl => execJpAtHL s
  | .jpSrc .ix => execJpAtIX s
  | .jpSrc .iy => execJpAtIY s
  | .jpSrc .incSP => execJpAtIncSP s
  | .jpSrc .hlC => execJpAtHLC s
  | .jpSrc (.ixd d) => execJpAtIXd d s
  | .jpSrc (.iyd d) => execJpAtIYd d s
  | .jpSrc (.spd d) => execJpAtSPd d s
  | .jpSrc (.hld d) => execJpAtHLd d s
  | .jpSrc .pcA => execJpAtPCA s
  | .ldDstRR (.x x) rr => execLdAtXRR x rr s
  | .ldDstRR (.vw addr) rr => execLdAtVWRR addr rr s
  | .ldDstRR .de rr => execLdAtDERR rr s
  | .ldDstRR .hl rr => execLdAtHLRR rr s
  | .ldDstRR .ix rr => execLdAtIXRR rr s
  | .ldDstRR .iy rr => execLdAtIYRR rr s
  | .ldDstRR .spDec rr => execLdAtSPDecRR rr s
  | .ldDstRR .hlC rr => execLdAtHLCRR rr s
  | .ldDstRR (.ixd d) rr => execLdAtIXdRR d rr s
  | .ldDstRR (.iyd d) rr => execLdAtIYdRR d rr s
  | .ldDstRR (.spd d) rr => execLdAtSPdRR d rr s
  | .ldDstRR (.hld d) rr => execLdAtHLdRR d rr s
  | .ldDstR (.x x) r => execLdAtXR x r s
  | .ldDstR (.vw addr) r => execLdAtVWR addr r s
  | .ldDstR .de r => execLdAtDER r s
  | .ldDstR .hl r => execLdAtHLR r s
  | .ldDstR .ix r => execLdAtIXR r s
  | .ldDstR .iy r => execLdAtIYR r s
  | .ldDstR .spDec r => execLdAtSPDecR r s
  | .ldDstR .hlC r => execLdAtHLCR r s
  | .ldDstR (.ixd d) r => execLdAtIXdR d r s
  | .ldDstR (.iyd d) r => execLdAtIYdR d r s
  | .ldDstR (.spd d) r => execLdAtSPdR d r s
  | .ldDstR (.hld d) r => execLdAtHLdR d r s
  | .ldDstN (.x x) n => execLdAtXNLong x n s
  | .ldDstN (.vw addr) n => execLdAtVWN addr n s
  | .ldDstN .de n => execLdAtDEN n s
  | .ldDstN .hl n => execLdAtHLNLong n s
  | .ldDstN .ix n => execLdAtIXN n s
  | .ldDstN .iy n => execLdAtIYN n s
  | .ldDstN .spDec n => execLdAtSPDecN n s
  | .ldDstN .hlC n => execLdAtHLCN n s
  | .ldDstN (.ixd d) n => execLdAtIXdN d n s
  | .ldDstN (.iyd d) n => execLdAtIYdN d n s
  | .ldDstN (.spd d) n => execLdAtSPdN d n s
  | .ldDstN (.hld d) n => execLdAtHLdN d n s

/-- `execForm` is `exec` of the form's instruction. -/
theorem exec_ofForm (f : Form) (s : State) : exec (Instr.ofForm f) s = execForm f s := by
  cases f with
  | nop => rfl
  | clrCF => rfl
  | setCF => rfl
  | cplCF => rfl
  | cmpXN x n => rfl
  | ldwXMN x mn => rfl
  | ldwHLMN mn => rfl
  | ldXN x n => rfl
  | ldHLN n => rfl
  | ldAX x => rfl
  | ldAHL => rfl
  | ldXA x => rfl
  | ldHLA => rfl
  | ldAR r => rfl
  | ldRN r n => rfl
  | incR r => rfl
  | decR r => rfl
  | incRR rr => rfl
  | ldSPAdd d => rfl
  | decRR rr => rfl
  | ldSPSub d => rfl
  | ldRA r => rfl
  | ldRRMN rr mn => rfl
  | pushPair p => rfl
  | ldCFXB x b => rfl
  | aluAN op n => cases op <;> rfl
  | callv n => rfl
  | jrs sense d => cases sense <;> rfl
  | setXB x b => rfl
  | clrXB x b => rfl
  | popPair p => rfl
  | jrCC c d => cases c <;> rfl
  | ldRBS n => cases n <;> rfl
  | ret => rfl
  | reti => rfl
  | jrA d => rfl
  | callMN mn => rfl
  | jpMN mn => rfl
  | swi => rfl
  | aluRG op r g => cases op <;> rfl
  | aluGN op g n => cases op <;> rfl
  | aluGGMN op gg mn => cases op <;> rfl
  | aluRRGG op rr gg => cases op <;> rfl
  | ldRG r g => rfl
  | ldRRGG rr gg => rfl
  | xorCFGB g b => rfl
  | ldCFGB g b => rfl
  | xchRG r g => rfl
  | xchRRGG rr gg => rfl
  | bitGB op g b => cases op <;> rfl
  | jrCCLong c d => cases c <;> rfl
  | pushIndex g => cases g <;> rfl
  | popIndex g => cases g <;> rfl
  | daa g => rfl
  | das g => rfl
  | pushPSW => rfl
  | popPSW => rfl
  | ldPSW n => rfl
  | ldGBCF g b => rfl
  | shift16 op gg => cases op <;> rfl
  | mul p => cases p <;> rfl
  | div p => cases p <;> rfl
  | shift8 op g => cases op <;> rfl
  | negCS gg => rfl
  | retn => rfl
  | callGG gg => rfl
  | jpGG gg => rfl
  | swap g => rfl
  | aluRSrc op r m => cases op <;> cases m <;> rfl
  | aluSrcN op m n => cases op <;> cases m <;> rfl
  | aluRRSrc op rr m => cases op <;> cases m <;> rfl
  | ldRSrc r m => cases m <;> rfl
  | ldRRSrc rr m => cases m <;> rfl
  | xorCFSrcB m b => cases m <;> rfl
  | ldCFSrcB m b => cases m <;> rfl
  | xchRSrc r m => cases m <;> rfl
  | bitSrcB op m b => cases op <;> cases m <;> rfl
  | xchRRSrc rr m => cases m <;> rfl
  | ldSrcBCF m b => cases m <;> rfl
  | incSrc m => cases m <;> rfl
  | bitSrcA op m => cases op <;> cases m <;> rfl
  | ldSrcACF m => cases m <;> rfl
  | rold m => cases m <;> rfl
  | rord m => cases m <;> rfl
  | decSrc m => cases m <;> rfl
  | ldCFSrcA m => cases m <;> rfl
  | callSrc m => cases m <;> rfl
  | jpSrc m => cases m <;> rfl
  | ldDstRR m rr => cases m <;> rfl
  | ldDstR m r => cases m <;> rfl
  | ldDstN m n => cases m <;> rfl

end Sys2Proof.Machine
end

