-- ==== Sys2Proof/Machine/Fetch.lean ====
section
/-!
DEFINITION. Instruction fetch (spec 20_memory.md R55): the bytes of an instruction are the code-area bytes at
`pc` and the addresses after it, modulo `2^16` (D3). And the placing of an instruction's bytes there.
-/

namespace Sys2Proof.Machine

open Sys2Proof

/-- The five code bytes from `pc` on. -/
def fetchWindow (s : State) : Window :=
  { b0 := codeRead8 s s.pc
    b1 := codeRead8 s (s.pc + 1)
    b2 := codeRead8 s (s.pc + 2)
    b3 := codeRead8 s (s.pc + 3)
    b4 := codeRead8 s (s.pc + 4) }

/-- The code area with a byte placed at a code address (the host only, R51). -/
def codePut (m : Mem) (a : Word) (v : Byte) : Mem := memPut m a.toNat v

/-- The code area with a window placed at an address. -/
def codePutWindow (m : Mem) (a : Word) (w : Window) : Mem :=
  codePut (codePut (codePut (codePut (codePut m a w.b0) (a + 1) w.b1) (a + 2) w.b2) (a + 3) w.b3) (a + 4) w.b4

/-- The state with a window placed where the next instruction is fetched; an event that the host presents is
withdrawn, since a step takes it before the fetch (R357). -/
def placeWindow (s : State) (w : Window) : State :=
  (s.withCode (codePutWindow s.code s.pc w)).withEvent none

end Sys2Proof.Machine
end

