-- ==== Sys2Proof/Machine/Step.lean ====
section
/-!
DEFINITION. One step of the machine, and the placing of an instruction where a step fetches.
-/

namespace Sys2Proof.Machine

open Sys2Proof

/-- One step (R101, R356, R361): at the instruction boundary a reset event or an accepted interrupt request is
taken; otherwise the bytes at `pc` are fetched, decoded and executed, or refused if they are an undefined code. -/
noncomputable def step (s : State) : Host.Outcome State Fault Refusal :=
  match takeEvent s with
  | some s' => .next s'
  | none =>
    match decode (fetchWindow s) with
    | .ok i => exec i s
    | .undefined bytes => .refused (.undefinedInstruction bytes)

/-- `step` with the form dispatched on directly: the code a compiler runs for `step`. Lean cannot compile a
function that builds a constructor beyond the 245th of a type, so `decode` has no code of its own. -/
def stepCompiled (s : State) : Host.Outcome State Fault Refusal :=
  match takeEvent s with
  | some s' => .next s'
  | none =>
    match decodeForm (fetchWindow s) with
    | .ok f => execForm f s
    | .undefined bytes => .refused (.undefinedInstruction bytes)

/-- The compiled code of `step` computes `step`. -/
@[csimp]
theorem step_eq_stepCompiled : @step = @stepCompiled := by
  funext s
  unfold step stepCompiled decode
  cases takeEvent s with
  | some s' => rfl
  | none =>
    cases decodeForm (fetchWindow s) with
    | ok f => exact exec_ofForm f s
    | undefined bytes => rfl

/-- The state with an instruction, its bits numbered as spec/opcode_table.json numbers them, placed where `step`
fetches its next instruction; the bytes after it, up to the fifth, are 0. -/
def State.withFetchWord (s : State) (nbits w : Nat) : State := placeWindow s (tableWindow nbits w)

end Sys2Proof.Machine
end

