-- ==== Sys2Proof/Safety.lean ====
section
/-!
DEFINITION. What counts as a good state and a good outcome, and the words the statements use to say what an
instruction leaves as it was.
-/

namespace Sys2Proof.Machine

open Sys2Proof

/-- The canonical form of a state: both areas are in canonical form, and the cell of data address 0x003A keeps
no copy of IMF (R57: bit 0 of that byte is IMF itself). Equal machines are then equal data. -/
def State.wf (s : State) : Bool :=
  memWf s.data && memWf s.code && !(bitOf (memGet s.data Config.imfAddr.toNat) 0)

/-- The outcome is a next state: neither a fault nor a refusal. -/
def completes (o : Result) : Prop := ∃ t, o = .next t

/-- The state is reached from `s` by steps that all answer a next state. -/
inductive Reaches : State → State → Prop where
  | refl (s : State) : Reaches s s
  | tail (s t u : State) (h : Reaches s t) (hstep : step t = .next u) : Reaches s u

/-! Frames. `s` is the state before, `t` the state after. -/

/-- No byte of the data area reads differently, IMF (its bit at 0x003A) included. -/
def keepsMemory (s t : State) : Prop := (∀ b, memRead8 t b = memRead8 s b) ∧ t.imf = s.imf

/-- Exactly the byte at `a` may read differently: it reads as `v`, every other one as before. IMF is bit 0 of
the byte at 0x003A. -/
def storesByte (s t : State) (a : Word) (v : Byte) : Prop :=
  (∀ b, memRead8 t b = if b = a then v else memRead8 s b) ∧
    t.imf = if a = Config.imfAddr then bitOf v 0 else s.imf

/-- Exactly the two bytes of a 2-byte access at `a` may read differently: the low byte was stored at `a`, then
the high byte at the next address (R54). -/
def storesWord (s t : State) (a v : Word) : Prop :=
  (∀ b, memRead8 t b =
    if b = nextDataAddr a then hiByte v else if b = a then loByte v else memRead8 s b) ∧
    t.imf = if nextDataAddr a = Config.imfAddr then bitOf (hiByte v) 0
      else if a = Config.imfAddr then bitOf (loByte v) 0 else s.imf

/-- The bank that RBS does not select is as before (R25). -/
def keepsOtherBank (s t : State) : Prop :=
  (s.psw.rbs = true → t.bank0 = s.bank0) ∧ (s.psw.rbs = false → t.bank1 = s.bank1)

/-- Every register of both banks, and SP, is as before. -/
def keepsRegisters (s t : State) : Prop := t.bank0 = s.bank0 ∧ t.bank1 = s.bank1 ∧ t.sp = s.sp

/-- The 8-bit register `r` of the current bank holds `v`; every other register of both banks, and SP, is as
before. -/
def writesR8 (s t : State) (r : Reg8) (v : Byte) : Prop :=
  (∀ q, readR8 t q = if q = r then v else readR8 s q) ∧ readR16 t .ix = readR16 s .ix ∧
    readR16 t .iy = readR16 s .iy ∧ t.sp = s.sp ∧ keepsOtherBank s t

/-- HL has two codes (R23): the name of a 16-bit register under its first code. -/
def reg16Main (r : Reg16) : Reg16 :=
  match r with
  | .hlAlt => .hl
  | .wa => .wa
  | .bc => .bc
  | .de => .de
  | .hl => .hl
  | .ix => .ix
  | .iy => .iy
  | .sp => .sp

/-- The 16-bit register `r` holds `v`; every other register of both banks, and SP, is as before. The pairs
WA, BC, DE, HL are all the 8-bit registers (R21). -/
def writesR16 (s t : State) (r : Reg16) (v : Word) : Prop :=
  (∀ q, readR16 t q = if reg16Main q = reg16Main r then v else readR16 s q) ∧ keepsOtherBank s t

/-- What no instruction changes: the code area (R51, R55) and what the host presents. -/
def keepsHost (s t : State) : Prop := t.code = s.code ∧ t.event = s.event

/-- The next instruction is the one `len` bytes on (R26), and nothing else of the machine's outside changes. -/
def continuesAfter (s t : State) (len : Nat) : Prop := t.pc = s.pcPlus len ∧ keepsHost s t

/-- An opcode byte as the rules print it: a base plus a 3-bit code, such as `0xE8+g` (R83). -/
def codeByte (base : Byte) (c : BitVec 3) : Byte := base + c.setWidth 8

/-! What the two-operand operations compute, said with integers (R181 to R184). `x` and `y` are the operands,
`p` the flags after. -/

/-- Addition with carry `c` (R181): the sum is exact in `res` and CF, SF is the sign, and VF is clear exactly
when the signed sum fits (log entry 7). -/
def addSpec {n : Nat} (x y res : BitVec n) (c : Bool) (p : Psw) : Prop :=
  x.toNat + y.toNat + carryNat c = res.toNat + 2 ^ n * carryNat p.cf ∧ p.zf = decide (res = 0) ∧
    p.sf = decide (res.toInt < 0) ∧ (p.vf = false ↔ res.toInt = x.toInt + y.toInt + carryNat c)

/-- Subtraction with borrow `c` (R182): CF is the borrow. -/
def subSpec {n : Nat} (x y res : BitVec n) (c : Bool) (p : Psw) : Prop :=
  x.toNat + 2 ^ n * carryNat p.cf = res.toNat + y.toNat + carryNat c ∧ p.zf = decide (res = 0) ∧
    p.sf = decide (res.toInt < 0) ∧ (p.vf = false ↔ res.toInt = x.toInt - y.toInt - carryNat c)

/-- The operation `op` on `x` and `y` from the flags `p` gives `res` and, but for HF, the flags `p'` (R184). -/
def aluSpec {n : Nat} (op : AluOp) (x y res : BitVec n) (p p' : Psw) : Prop :=
  p'.rbs = p.rbs ∧
    match op with
    | .addc => addSpec x y res p.cf p' ∧ p'.jf = p'.cf
    | .add => addSpec x y res false p' ∧ p'.jf = p'.cf
    | .subb => subSpec x y res p.cf p' ∧ p'.jf = p'.cf
    | .sub => subSpec x y res false p' ∧ p'.jf = p'.cf
    | .cmp => subSpec x y res false p' ∧ p'.jf = p'.zf
    | .and => res = x &&& y ∧ p' = { p with jf := decide (res = 0), zf := decide (res = 0) }
    | .xor => res = x ^^^ y ∧ p' = { p with jf := decide (res = 0), zf := decide (res = 0) }
    | .or => res = x ||| y ∧ p' = { p with jf := decide (res = 0), zf := decide (res = 0) }

/-- HF of an 8-bit operation (R34, R181, R182): the carry out of bit 3, the borrow into bit 3, or unchanged. -/
def halfSpec (op : AluOp) (x y : Byte) (p p' : Psw) : Prop :=
  p'.hf =
    match op with
    | .addc => decide (16 ≤ x.toNat % 16 + y.toNat % 16 + carryNat p.cf)
    | .add => decide (16 ≤ x.toNat % 16 + y.toNat % 16)
    | .subb => decide (x.toNat % 16 < y.toNat % 16 + carryNat p.cf)
    | .sub => decide (x.toNat % 16 < y.toNat % 16)
    | .cmp => decide (x.toNat % 16 < y.toNat % 16)
    | .and | .xor | .or => p.hf

/-! Packed decimal (R207, R208). -/

/-- Both nibbles are decimal digits. -/
def isBcd (v : Byte) : Prop := v.toNat / 16 < 10 ∧ v.toNat % 16 < 10

/-- The number that a packed decimal byte stands for. -/
def bcdValue (v : Byte) : Nat := 10 * (v.toNat / 16) + v.toNat % 16

/-! Which forms can change what (R25, R54, R360). -/

/-- The forms that store to the data area. -/
def formStores (f : Form) : Bool :=
  match f with
  | .aluSrcN op _ _ => aluWrites op
  | .ldwXMN _ _ | .ldwHLMN _ | .ldXN _ _ | .ldHLN _ | .ldXA _ | .ldHLA | .pushPair _ | .callv _ => true
  | .setXB _ _ | .clrXB _ _ | .callMN _ | .swi | .pushIndex _ | .pushPSW | .callGG _ | .xchRSrc _ _ => true
  | .bitSrcB _ _ _ | .xchRRSrc _ _ | .ldSrcBCF _ _ | .incSrc _ | .bitSrcA _ _ | .ldSrcACF _ => true
  | .rold _ | .rord _ | .decSrc _ | .callSrc _ | .ldDstRR _ _ | .ldDstR _ _ | .ldDstN _ _ => true
  | .nop | .clrCF | .setCF | .cplCF | .cmpXN _ _ | .ldAX _ | .ldAHL | .ldAR _ | .ldRN _ _ | .incR _ => false
  | .decR _ | .incRR _ | .ldSPAdd _ | .decRR _ | .ldSPSub _ | .ldRA _ | .ldRRMN _ _ | .ldCFXB _ _ => false
  | .aluAN _ _ | .jrs _ _ | .popPair _ | .jrCC _ _ | .ldRBS _ | .ret | .reti | .jrA _ | .jpMN _ => false
  | .aluRG _ _ _ | .aluGN _ _ _ | .aluGGMN _ _ _ | .aluRRGG _ _ _ | .ldRG _ _ | .ldRRGG _ _ => false
  | .xorCFGB _ _ | .ldCFGB _ _ | .xchRG _ _ | .xchRRGG _ _ | .bitGB _ _ _ | .jrCCLong _ _ => false
  | .popIndex _ | .daa _ | .das _ | .popPSW | .ldPSW _ | .ldGBCF _ _ | .shift16 _ _ | .mul _ => false
  | .div _ | .shift8 _ _ | .negCS _ | .retn | .jpGG _ | .swap _ | .aluRSrc _ _ _ | .aluRRSrc _ _ _ => false
  | .ldRSrc _ _ | .ldRRSrc _ _ | .xorCFSrcB _ _ | .ldCFSrcB _ _ | .ldCFSrcA _ | .jpSrc _ => false

/-- The forms that can change RBS (R25). -/
def formSelectsBank (f : Form) : Bool :=
  match f with
  | .ldRBS _ | .reti | .popPSW | .ldPSW _ | .retn => true
  | .nop | .clrCF | .setCF | .cplCF | .cmpXN _ _ | .ldwXMN _ _ | .ldwHLMN _ | .ldXN _ _ | .ldHLN _ => false
  | .ldAX _ | .ldAHL | .ldXA _ | .ldHLA | .ldAR _ | .ldRN _ _ | .incR _ | .decR _ | .incRR _ => false
  | .ldSPAdd _ | .decRR _ | .ldSPSub _ | .ldRA _ | .ldRRMN _ _ | .pushPair _ | .ldCFXB _ _ => false
  | .aluAN _ _ | .callv _ | .jrs _ _ | .setXB _ _ | .clrXB _ _ | .popPair _ | .jrCC _ _ | .ret => false
  | .jrA _ | .callMN _ | .jpMN _ | .swi | .aluRG _ _ _ | .aluGN _ _ _ | .aluGGMN _ _ _ => false
  | .aluRRGG _ _ _ | .ldRG _ _ | .ldRRGG _ _ | .xorCFGB _ _ | .ldCFGB _ _ | .xchRG _ _ => false
  | .xchRRGG _ _ | .bitGB _ _ _ | .jrCCLong _ _ | .pushIndex _ | .popIndex _ | .daa _ | .das _ => false
  | .pushPSW | .ldGBCF _ _ | .shift16 _ _ | .mul _ | .div _ | .shift8 _ _ | .negCS _ | .callGG _ => false
  | .jpGG _ | .swap _ | .aluRSrc _ _ _ | .aluSrcN _ _ _ | .aluRRSrc _ _ _ | .ldRSrc _ _ => false
  | .ldRRSrc _ _ | .xorCFSrcB _ _ | .ldCFSrcB _ _ | .xchRSrc _ _ | .bitSrcB _ _ _ | .xchRRSrc _ _ => false
  | .ldSrcBCF _ _ | .incSrc _ | .bitSrcA _ _ | .ldSrcACF _ | .rold _ | .rord _ | .decSrc _ => false
  | .ldCFSrcA _ | .callSrc _ | .jpSrc _ | .ldDstRR _ _ | .ldDstR _ _ | .ldDstN _ _ => false

/-! The undefined codes (R111), in the words of the rule. -/

/-- Undefined first bytes. -/
def undefinedFirst (b : Byte) : Prop :=
  b = 0x01 ∨ b = 0x02 ∨ b = 0x03 ∨ (0x68#8 ≤ b ∧ b ≤ 0x6F#8) ∨ b = 0xF8

/-- Undefined second bytes after the register byte `p`, restricted combinations included. -/
def undefinedAfterReg (p b : Byte) : Prop :=
  b = 0x4F ∨ b = 0x7F ∨ b = 0xDF ∨ b = 0xF8 ∨ b = 0xF9 ∨ b = 0xFC ∨
    (((0xD0#8 ≤ b ∧ b ≤ 0xD7#8) ∨ b = 0xDC ∨ b = 0xDD ∨ b = 0xDE ∨ b = 0xFB) ∧ p ≠ 0xE8) ∨
    ((b = 0xD8 ∨ b = 0xD9) ∧ p ≠ 0xEC ∧ p ≠ 0xED) ∨
    (b = 0xF2 ∧ ¬(0xE8#8 ≤ p ∧ p ≤ 0xEB#8)) ∨
    (b = 0xF3 ∧ p ≠ 0xE8 ∧ p ≠ 0xEA ∧ p ≠ 0xEB)

/-- Undefined second bytes after a source memory operand. -/
def undefinedAfterSrc (b : Byte) : Prop :=
  b = 0x4F ∨ (0x68#8 ≤ b ∧ b ≤ 0x6F#8) ∨ (0x78#8 ≤ b ∧ b ≤ 0x7F#8) ∨ (0xD0#8 ≤ b ∧ b ≤ 0xD7#8) ∨ b = 0xF1 ∨
    b = 0xF4 ∨ b = 0xF5 ∨ b = 0xF9 ∨ b = 0xFF

/-- Undefined second bytes after a destination memory operand. -/
def undefinedAfterDst (b : Byte) : Prop :=
  ¬(0x68#8 ≤ b ∧ b ≤ 0x6E#8) ∧ ¬(0x78#8 ≤ b ∧ b ≤ 0x7F#8) ∧ b ≠ 0xF9

/-- A source memory byte with `k` operand bytes before the second opcode (R83). -/
def srcOperands (p : Byte) (k : Nat) : Prop :=
  (k = 0 ∧ ((0xE2#8 ≤ p ∧ p ≤ 0xE7#8) ∨ p = 0x4F)) ∨ (k = 1 ∧ (p = 0xE0 ∨ (0xD4#8 ≤ p ∧ p ≤ 0xD7#8))) ∨
    (k = 2 ∧ p = 0xE1)

/-- A destination memory byte with `k` operand bytes before the second opcode (R83). -/
def dstOperands (p : Byte) (k : Nat) : Prop :=
  (k = 0 ∧ (0xF2#8 ≤ p ∧ p ≤ 0xF7#8)) ∨ (k = 1 ∧ (p = 0xF0 ∨ (0x54#8 ≤ p ∧ p ≤ 0x57#8))) ∨ (k = 2 ∧ p = 0xF1)

/-- The bytes `l` (at least five) begin with an undefined code, and it is the bytes `code`: the first opcode,
and for a prefixed form its operand bytes and the second opcode (R111, R361). -/
def undefinedCode (l code : List Byte) : Prop :=
  (undefinedFirst (l.getD 0 0) ∧ code = l.take 1) ∨
    (l.getD 0 0 = 0xF9 ∧ l.getD 1 0 ≠ 0x00 ∧ l.getD 1 0 ≠ 0x02 ∧ code = l.take 2) ∨
    ((0xE8#8 ≤ l.getD 0 0 ∧ l.getD 0 0 ≤ 0xEF#8) ∧ undefinedAfterReg (l.getD 0 0) (l.getD 1 0) ∧
      code = l.take 2) ∨
    (∃ k, srcOperands (l.getD 0 0) k ∧ undefinedAfterSrc (l.getD (k + 1) 0) ∧ code = l.take (k + 2)) ∨
    (∃ k, dstOperands (l.getD 0 0) k ∧ undefinedAfterDst (l.getD (k + 1) 0) ∧ code = l.take (k + 2))

end Sys2Proof.Machine
end

