-- ==== Sys2Proof/Certificates/Slice0/Obligations.lean ====
section
/-!
DEFINITION. The statements for the provers. A statement about instructions quantifies over the operand form
`i.form = …`: one form covers every constructor of `Instr` that `Instr.form` gives that form (an operation in
every addressing mode, and the assembler spellings), for every operand. `srcBegin`, `srcAddr`, `dstAddr`,
`dstEnd` are the addressing modes (`AddressingModes` says what they are).
-/

open Sys2Proof Sys2Proof.Machine

/-! Transfer and exchange -/

/-- `LD A,r`, `LD r,A`, `LD r,g` (R121, R122, R123): their bytes; the destination receives the source, JF is 1, ZF tests the
datum; nothing else changes. -/
def Obligations.LoadByteFromRegister : Prop :=
  ∀ (s : State) (i : Instr) (dst src : Reg8) (bytes : List Byte),
    (i.form = .ldAR src ∧ dst = .a ∧ bytes = [codeByte 0x10 src.code]) ∨
      (i.form = .ldRA dst ∧ src = .a ∧ bytes = [codeByte 0x40 dst.code]) ∨
      (i.form = .ldRG dst src ∧ bytes = [codeByte 0xE8 src.code, codeByte 0x40 dst.code]) →
    encode i = bytes ∧ ∃ t, exec i s = .next t ∧ writesR8 s t dst (readR8 s src) ∧
      t.psw = { s.psw with jf := true, zf := decide (readR8 s src = 0) } ∧ keepsMemory s t ∧
      continuesAfter s t bytes.length

/-- `LD A,(x)`, `LD A,(HL)`, `LD r,(src)` in all thirteen source modes (R125, R126, R127): the register
receives the byte at the effective address, JF is 1, ZF tests the datum. `(+SP)` increments SP first. -/
def Obligations.LoadByteFromMemory : Prop :=
  ∀ (s : State) (i : Instr) (r : Reg8) (m : Src) (len : Nat),
    ((∃ x, i.form = .ldAX x ∧ r = .a ∧ m = .x x) ∧ len = 2) ∨ (i.form = .ldAHL ∧ r = .a ∧ m = .hl ∧ len = 1) ∨
      (i.form = .ldRSrc r m ∧ len = 2 + srcExtra m) →
    let s1 := srcBegin m s
    let v := memRead8 s (srcAddr m s1)
    ∃ t, exec i s = .next t ∧ writesR8 s1 t r v ∧ t.psw = { s.psw with jf := true, zf := decide (v = 0) } ∧
      keepsMemory s t ∧ continuesAfter s t len

/-- `LD rr,gg`, `LD rr,mn`, `LD rr,(src)` (R124, R134, R128): the 16-bit register receives the word, JF is 1
and no other flag changes. `LD rr,(+SP)` moves SP by one before the read. -/
def Obligations.LoadWord : Prop :=
  ∀ (s : State) (i : Instr) (rr : Reg16),
    (∀ gg, i.form = .ldRRGG rr gg → ∃ t, exec i s = .next t ∧ writesR16 s t rr (readR16 s gg) ∧
      t.psw = { s.psw with jf := true } ∧ keepsMemory s t ∧ continuesAfter s t 2) ∧
    (∀ mn, i.form = .ldRRMN rr mn → ∃ t, exec i s = .next t ∧ writesR16 s t rr mn ∧
      t.psw = { s.psw with jf := true } ∧ keepsMemory s t ∧ continuesAfter s t 3) ∧
    (∀ m, i.form = .ldRRSrc rr m → ∃ t, exec i s = .next t ∧
      writesR16 (srcBegin m s) t rr (memRead16 s (srcAddr m (srcBegin m s))) ∧
      t.psw = { s.psw with jf := true } ∧ keepsMemory s t ∧ continuesAfter s t (2 + srcExtra m))

/-- `LD r,n` (R133) does not touch ZF; `LD SP,SP+d` and `LD SP,SP-d` (R152, R153) take `d` unsigned. -/
def Obligations.LoadImmediateAndAdjustSp : Prop :=
  ∀ (s : State) (i : Instr),
    (∀ r n, i.form = .ldRN r n → encode i = [codeByte 0x18 r.code, n] ∧ ∃ t, exec i s = .next t ∧ writesR8 s t r n ∧
      t.psw = { s.psw with jf := true } ∧ keepsMemory s t ∧ continuesAfter s t 2) ∧
    (∀ d, i.form = .ldSPAdd d → ∃ t, exec i s = .next t ∧ t.bank0 = s.bank0 ∧ t.bank1 = s.bank1 ∧
      t.sp.toNat = (s.sp.toNat + d.toNat) % 65536 ∧ t.psw = { s.psw with jf := true } ∧ keepsMemory s t ∧
      continuesAfter s t 2) ∧
    (∀ d, i.form = .ldSPSub d → ∃ t, exec i s = .next t ∧ t.bank0 = s.bank0 ∧ t.bank1 = s.bank1 ∧
      t.sp.toNat = (s.sp.toNat + 65536 - d.toNat) % 65536 ∧ t.psw = { s.psw with jf := true } ∧
      keepsMemory s t ∧ continuesAfter s t 2)

/-- The 8-bit stores (R129, R130, R135, R139, R140, R141): exactly the byte at the effective address changes,
JF is 1, ZF does not change, no register changes but SP in `(SP-)`, which is decremented after the store. -/
def Obligations.StoreByte : Prop :=
  ∀ (s : State) (i : Instr) (m : Dst) (v : Byte) (len : Nat), s.wf = true →
    (∃ x, m = .x x ∧ ((i.form = .ldXA x ∧ v = readR8 s .a ∧ len = 2) ∨ (i.form = .ldXN x v ∧ len = 3))) ∨
      (m = .hl ∧ ((i.form = .ldHLA ∧ v = readR8 s .a ∧ len = 1) ∨ (i.form = .ldHLN v ∧ len = 2))) ∨
      (∃ r, i.form = .ldDstR m r ∧ v = readR8 s r ∧ len = 2 + dstExtra m) ∨
      (i.form = .ldDstN m v ∧ len = 3 + dstExtra m) →
    ∃ t, exec i s = .next t ∧ storesByte s t (dstAddr m s) v ∧ keepsRegisters (dstEnd m s) t ∧
      t.psw = { s.psw with jf := true } ∧ continuesAfter s t len

/-- The 16-bit stores (R136, R137, R142, R143): the low byte at the effective address, then the high byte at
the next address. `(SP-)` moves SP down by one only. -/
def Obligations.StoreWord : Prop :=
  ∀ (s : State) (i : Instr) (m : Dst) (v : Word) (len : Nat), s.wf = true →
    (∃ x, m = .x x ∧ i.form = .ldwXMN x v ∧ len = 4) ∨ (m = .hl ∧ i.form = .ldwHLMN v ∧ len = 3) ∨
      (∃ rr, i.form = .ldDstRR m rr ∧ v = readR16 s rr ∧ len = 2 + dstExtra m) →
    ∃ t, exec i s = .next t ∧ storesWord s t (dstAddr m s) v ∧ keepsRegisters (dstEnd m s) t ∧
      t.psw = { s.psw with jf := true } ∧ continuesAfter s t len

/-- `PUSH rr`, `PUSH gg` (R144, R146): the high byte at SP, the low byte at SP-1, SP minus 2, no flag. -/
def Obligations.PushWord : Prop :=
  ∀ (s : State) (i : Instr) (v : Word) (bytes : List Byte), s.wf = true →
    (∃ p, i.form = .pushPair p ∧ v = readR16 s (pairReg p) ∧ bytes = [codeByte 0x50 p.code]) ∨
      (i.form = .pushIndex .ix ∧ v = readR16 s .ix ∧ bytes = [0xEC, 0xD8]) ∨
      (i.form = .pushIndex .iy ∧ v = readR16 s .iy ∧ bytes = [0xED, 0xD8]) →
    encode i = bytes ∧ ∃ t, exec i s = .next t ∧ t.sp = s.sp - 2 ∧ t.bank0 = s.bank0 ∧ t.bank1 = s.bank1 ∧ t.psw = s.psw ∧
      (∀ b, memRead8 t b =
        if b = s.sp - 1 then loByte v else if b = s.sp then hiByte v else memRead8 s b) ∧
      continuesAfter s t bytes.length

/-- `POP rr`, `POP gg` (R145, R147): SP plus 2, the low byte from SP+1 and the high byte from SP+2 of the SP
before; no flag, no byte of memory. -/
def Obligations.PopWord : Prop :=
  ∀ (s : State) (i : Instr) (rr : Reg16) (bytes : List Byte),
    (∃ p, i.form = .popPair p ∧ rr = pairReg p ∧ bytes = [codeByte 0xD0 p.code]) ∨
      (i.form = .popIndex .ix ∧ rr = .ix ∧ bytes = [0xEC, 0xD9]) ∨
      (i.form = .popIndex .iy ∧ rr = .iy ∧ bytes = [0xED, 0xD9]) →
    encode i = bytes ∧ ∃ t, exec i s = .next t ∧
      writesR16 (s.withSp (s.sp + 2)) t rr (wordOf (memRead8 s (s.sp + 2)) (memRead8 s (s.sp + 1))) ∧
      t.psw = s.psw ∧ keepsMemory s t ∧ continuesAfter s t bytes.length

/-- `PUSH PSW` (R148): JF ZF CF HF SF VF RBS in bits 7..1 of the byte at SP, SP minus 1; bit 0 of the byte is a
free value, some bit of which nothing is said (log entry 5). `POP PSW`, `LD PSW,n`, `LD RBS,n` (R149, R150,
R151): bit 0 of the byte is ignored and IMF is unchanged; `LD RBS` changes no flag; no general register of either
bank changes. -/
def Obligations.PswTransfers : Prop :=
  ∀ (s : State) (i : Instr),
    (s.wf = true → i.form = .pushPSW → ∃ t v, exec i s = .next t ∧ storesByte s t s.sp v ∧
      pswOfByte v = s.psw ∧ keepsRegisters (s.withSp (s.sp - 1)) t ∧ t.psw = s.psw ∧ continuesAfter s t 2) ∧
    (i.form = .popPSW → encode i = [0xE8, 0xDD] ∧ ∃ t, exec i s = .next t ∧ t.psw = pswOfByte (memRead8 s (s.sp + 1)) ∧
      keepsRegisters (s.withSp (s.sp + 1)) t ∧ keepsMemory s t ∧ continuesAfter s t 2) ∧
    (∀ n, i.form = .ldPSW n → encode i = [0xE8, 0xDE, n] ∧ ∃ t, exec i s = .next t ∧ t.psw = pswOfByte n ∧ keepsRegisters s t ∧
      keepsMemory s t ∧ continuesAfter s t 3) ∧
    (∀ n, i.form = .ldRBS n → ∃ t, exec i s = .next t ∧ t.psw = { s.psw with rbs := n } ∧
      keepsRegisters s t ∧ keepsMemory s t ∧ continuesAfter s t 2)

/-- `XCH r,g`, `XCH rr,gg` (R154, R155): the two registers change places; ZF is the zero test of `g` before the
exchange, and the 16-bit exchange leaves ZF. HL under either code is one register. -/
def Obligations.ExchangeRegisters : Prop :=
  ∀ (s : State) (i : Instr),
    (∀ r g, i.form = .xchRG r g → encode i = [codeByte 0xE8 g.code, codeByte 0x70 r.code] ∧ ∃ t, exec i s = .next t ∧
      (∀ q, readR8 t q = if q = g then readR8 s r else if q = r then readR8 s g else readR8 s q) ∧
      readR16 t .ix = readR16 s .ix ∧ readR16 t .iy = readR16 s .iy ∧ t.sp = s.sp ∧ keepsOtherBank s t ∧
      t.psw = { s.psw with jf := true, zf := decide (readR8 s g = 0) } ∧ keepsMemory s t ∧
      continuesAfter s t 2) ∧
    (∀ rr gg, i.form = .xchRRGG rr gg → ∃ t, exec i s = .next t ∧
      (∀ q, readR16 t q = if reg16Main q = reg16Main gg then readR16 s rr
        else if reg16Main q = reg16Main rr then readR16 s gg else readR16 s q) ∧ keepsOtherBank s t ∧
      t.psw = { s.psw with jf := true } ∧ keepsMemory s t ∧ continuesAfter s t 2)

/-- `XCH r,(src)`, `XCH rr,(src)` (R156, R157): register and memory change places at one address, formed before
either is written. -/
def Obligations.ExchangeWithMemory : Prop :=
  ∀ (s : State) (i : Instr) (m : Src), s.wf = true →
    let s1 := srcBegin m s
    let a := srcAddr m s1
    (∀ r, i.form = .xchRSrc r m → ∃ t, exec i s = .next t ∧ storesByte s t a (readR8 s r) ∧
      writesR8 s1 t r (memRead8 s a) ∧
      t.psw = { s.psw with jf := true, zf := decide (memRead8 s a = 0) } ∧
      continuesAfter s t (2 + srcExtra m)) ∧
    (∀ rr, i.form = .xchRRSrc rr m → ∃ t, exec i s = .next t ∧ storesWord s t a (readR16 s1 rr) ∧
      writesR16 s1 t rr (memRead16 s a) ∧ t.psw = { s.psw with jf := true } ∧
      continuesAfter s t (2 + srcExtra m))

/-! Arithmetic and logic -/

/-- `op A,n`, `op g,n`, `op r,g` (R185, R186, R187) for the eight operations: result and flags by exact integer
arithmetic; `CMP` writes no register. The meaning of VF is the model's (log entry 7). -/
def Obligations.AluByteOnRegisters : Prop :=
  ∀ (s : State) (i : Instr) (op : AluOp) (r : Reg8) (y : Byte) (len : Nat),
    (i.form = .aluAN op y ∧ r = .a ∧ len = 2) ∨ (i.form = .aluGN op r y ∧ len = 3) ∨
      (∃ g, i.form = .aluRG op r g ∧ y = readR8 s g ∧ len = 2) →
    ∃ t res, exec i s = .next t ∧ aluSpec op (readR8 s r) y res s.psw t.psw ∧
      halfSpec op (readR8 s r) y s.psw t.psw ∧
      (if op = .cmp then keepsRegisters s t else writesR8 s t r res) ∧ keepsMemory s t ∧ continuesAfter s t len

/-- `op r,(src)` (R188) in all thirteen source modes. -/
def Obligations.AluByteFromMemory : Prop :=
  ∀ (s : State) (i : Instr) (op : AluOp) (r : Reg8) (m : Src), i.form = .aluRSrc op r m →
    let s1 := srcBegin m s
    let y := memRead8 s (srcAddr m s1)
    ∃ t res, exec i s = .next t ∧ aluSpec op (readR8 s r) y res s.psw t.psw ∧
      halfSpec op (readR8 s r) y s.psw t.psw ∧
      (if op = .cmp then keepsRegisters s1 t else writesR8 s1 t r res) ∧ keepsMemory s t ∧
      continuesAfter s t (2 + srcExtra m)

/-- `op (src),n` (R189) in all thirteen source modes and the short `CMP (x),n` (R190): the memory byte is the
first operand and receives the result; `CMP` stores nothing. -/
def Obligations.AluByteOnMemory : Prop :=
  ∀ (s : State) (i : Instr) (op : AluOp) (m : Src) (n : Byte) (len : Nat), s.wf = true →
    (i.form = .aluSrcN op m n ∧ len = 3 + srcExtra m) ∨ (∃ x, i.form = .cmpXN x n ∧ op = .cmp ∧ m = .x x ∧ len = 3) →
    let s1 := srcBegin m s
    let a := srcAddr m s1
    ∃ t res, exec i s = .next t ∧ aluSpec op (memRead8 s a) n res s.psw t.psw ∧
      halfSpec op (memRead8 s a) n s.psw t.psw ∧ keepsRegisters s1 t ∧
      (if op = .cmp then keepsMemory s t else storesByte s t a res) ∧ continuesAfter s t len

/-- `op gg,mn`, `op rr,gg` (R192, R193). HF of the 16-bit arithmetic is a free value: the statement says nothing
of it (R34, log entry 5); logic leaves it. The meaning of VF is the model's (log entry 7). -/
def Obligations.AluWordOnRegisters : Prop :=
  ∀ (s : State) (i : Instr) (op : AluOp) (rr : Reg16) (y : Word) (len : Nat),
    (i.form = .aluGGMN op rr y ∧ len = 4) ∨ (∃ gg, i.form = .aluRRGG op rr gg ∧ y = readR16 s gg ∧ len = 2) →
    ∃ t res, exec i s = .next t ∧ aluSpec op (readR16 s rr) y res s.psw t.psw ∧
      (if op = .cmp then keepsRegisters s t else writesR16 s t rr res) ∧ keepsMemory s t ∧
      continuesAfter s t len

/-- `op rr,(src)` (R194): SP as a destination of `(+SP)` is read after the increment. HF of the
16-bit arithmetic is a free value (log entry 5); the meaning of VF is the model's (log entry 7). -/
def Obligations.AluWordFromMemory : Prop :=
  ∀ (s : State) (i : Instr) (op : AluOp) (rr : Reg16) (m : Src), i.form = .aluRRSrc op rr m →
    let s1 := srcBegin m s
    ∃ t res, exec i s = .next t ∧
      aluSpec op (readR16 s1 rr) (memRead16 s (srcAddr m s1)) res s.psw t.psw ∧
      (if op = .cmp then keepsRegisters s1 t else writesR16 s1 t rr res) ∧ keepsMemory s t ∧
      continuesAfter s t (2 + srcExtra m)

/-- `INC r`, `INC rr`, `DEC r`, `DEC rr` (R200, R201, R203, R204): JF is set exactly when the value wraps, ZF
tests the result, CF and the other flags stay. -/
def Obligations.StepRegister : Prop :=
  ∀ (s : State) (i : Instr),
    (∀ r, i.form = .incR r → encode i = [codeByte 0x20 r.code] ∧ ∃ t v, exec i s = .next t ∧ writesR8 s t r v ∧
      v.toNat = (readR8 s r).toNat + 1 - 256 * carryNat t.psw.jf ∧
      t.psw = { s.psw with jf := decide ((readR8 s r).toNat = 255), zf := decide (v = 0) } ∧
      keepsMemory s t ∧ continuesAfter s t 1) ∧
    (∀ r, i.form = .decR r → encode i = [codeByte 0x28 r.code] ∧ ∃ t v, exec i s = .next t ∧ writesR8 s t r v ∧
      v.toNat = (readR8 s r).toNat + 256 * carryNat t.psw.jf - 1 ∧
      t.psw = { s.psw with jf := decide ((readR8 s r).toNat = 0), zf := decide (v = 0) } ∧
      keepsMemory s t ∧ continuesAfter s t 1) ∧
    (∀ rr, i.form = .incRR rr → ∃ t v, exec i s = .next t ∧ writesR16 s t rr v ∧
      v.toNat = (readR16 s rr).toNat + 1 - 65536 * carryNat t.psw.jf ∧
      t.psw = { s.psw with jf := decide ((readR16 s rr).toNat = 65535), zf := decide (v = 0) } ∧
      keepsMemory s t ∧ continuesAfter s t 1) ∧
    (∀ rr, i.form = .decRR rr → ∃ t v, exec i s = .next t ∧ writesR16 s t rr v ∧
      v.toNat = (readR16 s rr).toNat + 65536 * carryNat t.psw.jf - 1 ∧
      t.psw = { s.psw with jf := decide ((readR16 s rr).toNat = 0), zf := decide (v = 0) } ∧
      keepsMemory s t ∧ continuesAfter s t 1)

/-- `INC (src)`, `DEC (src)` (R202, R205): one byte at one address. -/
def Obligations.StepMemory : Prop :=
  ∀ (s : State) (i : Instr) (m : Src), s.wf = true →
    let s1 := srcBegin m s
    let a := srcAddr m s1
    let old := (memRead8 s a).toNat
    (i.form = .incSrc m → ∃ t v, exec i s = .next t ∧ storesByte s t a v ∧ keepsRegisters s1 t ∧
      v.toNat = (old + 1) % 256 ∧ t.psw = { s.psw with jf := decide (old = 255), zf := decide (v = 0) } ∧
      continuesAfter s t (2 + srcExtra m)) ∧
    (i.form = .decSrc m → ∃ t v, exec i s = .next t ∧ storesByte s t a v ∧ keepsRegisters s1 t ∧
      v.toNat = (old + 255) % 256 ∧ t.psw = { s.psw with jf := decide (old = 0), zf := decide (v = 0) } ∧
      continuesAfter s t (2 + srcExtra m))

/-- `DAA g`, `DAS g` (R207, R208) complete whatever the register and the flags: only `g`, JF, ZF, CF, HF
change, and JF is CF. On a state that a row of the table lists, `DAA` adds the closed form of the table, and
`DAS` its own with CF kept; ZF tests the result. Off the table `g`, CF, HF and ZF, and after `DAS` always HF, are
free values (log entry 5). -/
def Obligations.DecimalAdjust : Prop :=
  ∀ (s : State) (i : Instr) (g : Reg8),
    let v := readR8 s g
    (i.form = .daa g → ∃ t v', exec i s = .next t ∧ writesR8 s t g v' ∧
      t.psw = { s.psw with jf := t.psw.cf, zf := t.psw.zf, cf := t.psw.cf, hf := t.psw.hf } ∧
      keepsMemory s t ∧ continuesAfter s t 2 ∧
      (adjustRow daaRows s.psw.cf s.psw.hf v ≠ none →
        let adj : Nat := (if s.psw.hf = true ∨ 9 < v.toNat % 16 then 0x06 else 0) +
          (if s.psw.cf = true ∨ 0x99 < v.toNat then 0x60 else 0)
        v'.toNat = (v.toNat + adj) % 256 ∧ t.psw.cf = decide (0x60 ≤ adj) ∧ t.psw.zf = decide (v' = 0) ∧
          t.psw.hf = decide (16 ≤ v.toNat % 16 + adj % 16))) ∧
    (i.form = .das g → ∃ t v', exec i s = .next t ∧ writesR8 s t g v' ∧
      t.psw = { s.psw with jf := t.psw.cf, zf := t.psw.zf, cf := t.psw.cf, hf := t.psw.hf } ∧
      keepsMemory s t ∧ continuesAfter s t 2 ∧
      (adjustRow dasRows s.psw.cf s.psw.hf v ≠ none →
        let adj : Nat := (if s.psw.hf = true then 0xFA else 0) + (if s.psw.cf = true then 0xA0 else 0)
        v'.toNat = (v.toNat + adj) % 256 ∧ t.psw.cf = s.psw.cf ∧ t.psw.zf = decide (v' = 0)))

/-- `MUL` (R210): the unsigned product of the two halves of the pair; ZF and JF test its upper byte. -/
def Obligations.Multiply : Prop :=
  ∀ (s : State) (i : Instr) (p : Pair), i.form = .mul p →
    let v := readR16 s (pairReg p)
    ∃ t prod, exec i s = .next t ∧ writesR16 s t (pairReg p) prod ∧
      prod.toNat = (hiByte v).toNat * (loByte v).toNat ∧
      t.psw = { s.psw with jf := decide (prod.toNat < 256), zf := decide (prod.toNat < 256) } ∧
      keepsMemory s t ∧ continuesAfter s t 2

/-- `DIV gg,C` (R211): with a divisor and a quotient below 256, quotient and remainder and CF clear; otherwise
CF is 1, the two bytes and ZF are free values, and JF is ZF (log entry 5). No other register changes. -/
def Obligations.Divide : Prop :=
  ∀ (s : State) (i : Instr) (p : DivPair), i.form = .div p →
    let num := (readR16 s (divReg p)).toNat
    let dv := (readR8 s .c).toNat
    ∃ t v, exec i s = .next t ∧ writesR16 s t (divReg p) v ∧ keepsMemory s t ∧ continuesAfter s t 2 ∧
      (num < 256 * dv →
        num = (loByte v).toNat * dv + (hiByte v).toNat ∧ (hiByte v).toNat < dv ∧
        t.psw = { s.psw with jf := decide (hiByte v = 0), zf := decide (hiByte v = 0), cf := false }) ∧
      (¬num < 256 * dv → t.psw = { s.psw with jf := t.psw.zf, zf := t.psw.zf, cf := true })

/-- `NEG CS,gg` (R212): the two's complement when CF is 1, nothing when it is 0; JF is 1 either way. -/
def Obligations.NegateOnCarry : Prop :=
  ∀ (s : State) (i : Instr) (gg : Reg16), i.form = .negCS gg →
    encode i = [codeByte 0xE8 gg.code, 0xFA] ∧ ∃ t, exec i s = .next t ∧
      (s.psw.cf = true → ∃ v, writesR16 s t gg v ∧ v.toNat = (65536 - (readR16 s gg).toNat) % 65536) ∧
      (s.psw.cf = false → keepsRegisters s t) ∧ t.psw = { s.psw with jf := true } ∧ keepsMemory s t ∧
      continuesAfter s t 2

/-- `ADDC r,g` and then `DAA r` of two packed decimal bytes: the decimal sum with carry (R181, R207). -/
def Obligations.DecimalAddition : Prop :=
  ∀ (s : State) (i j : Instr) (r g : Reg8), i.form = .aluRG .addc r g → j.form = .daa r →
    isBcd (readR8 s r) → isBcd (readR8 s g) →
    ∃ t u, exec i s = .next t ∧ exec j t = .next u ∧ isBcd (readR8 u r) ∧
      bcdValue (readR8 u r) + 100 * carryNat u.psw.cf =
        bcdValue (readR8 s r) + bcdValue (readR8 s g) + carryNat s.psw.cf

/-- `SUBB r,g` and then `DAS r` of two packed decimal bytes: the decimal difference with borrow (R182, R208). -/
def Obligations.DecimalSubtraction : Prop :=
  ∀ (s : State) (i j : Instr) (r g : Reg8), i.form = .aluRG .subb r g → j.form = .das r →
    isBcd (readR8 s r) → isBcd (readR8 s g) →
    ∃ t u, exec i s = .next t ∧ exec j t = .next u ∧ isBcd (readR8 u r) ∧
      bcdValue (readR8 s r) + 100 * carryNat u.psw.cf =
        bcdValue (readR8 u r) + bcdValue (readR8 s g) + carryNat s.psw.cf

/-! Shift, rotate, nibble -/

/-- `SHLC`, `SHRC`, `ROLC`, `RORC` (R231 to R234) as exact arithmetic on CF and the register: CF and JF are the
bit that leaves, ZF tests the register after. -/
def Obligations.ShiftRotateByte : Prop :=
  ∀ (s : State) (i : Instr) (op : Shift8) (g : Reg8), i.form = .shift8 op g →
    let v := (readR8 s g).toNat
    encode i = [codeByte 0xE8 g.code, match op with | .shlc => 0xF4 | .shrc => 0xF5 | .rolc => 0xF6 | .rorc => 0xF7] ∧
    ∃ t res, exec i s = .next t ∧ writesR8 s t g res ∧
      t.psw = { s.psw with jf := t.psw.cf, zf := decide (res = 0), cf := t.psw.cf } ∧
      (match op with
        | .shlc => 2 * v = res.toNat + 256 * carryNat t.psw.cf
        | .shrc => v = 2 * res.toNat + carryNat t.psw.cf
        | .rolc => 2 * v + carryNat s.psw.cf = res.toNat + 256 * carryNat t.psw.cf
        | .rorc => v + 256 * carryNat s.psw.cf = 2 * res.toNat + carryNat t.psw.cf) ∧
      keepsMemory s t ∧ continuesAfter s t 2

/-- `SHLCA`, `SHRCA` (R235, R236) as exact signed arithmetic: doubling with VF set exactly when it does not fit,
halving towards minus infinity with VF clear; HF stays. That JF is the new CF after `SHRCA` is the spec's resolution
of C11 (log entry 21). -/
def Obligations.ShiftWord : Prop :=
  ∀ (s : State) (i : Instr) (op : Shift16) (gg : Reg16), i.form = .shift16 op gg →
    let v := readR16 s gg
    ∃ t res, exec i s = .next t ∧ writesR16 s t gg res ∧
      t.psw = { s.psw with jf := t.psw.cf, zf := decide (res = 0), cf := t.psw.cf,
                           sf := decide (res.toInt < 0), vf := t.psw.vf } ∧
      (match op with
        | .shlca => 2 * v.toNat = res.toNat + 65536 * carryNat t.psw.cf ∧
            (t.psw.vf = false ↔ res.toInt = 2 * v.toInt)
        | .shrca => v.toInt = 2 * res.toInt + carryNat t.psw.cf ∧ t.psw.vf = false) ∧
      keepsMemory s t ∧ continuesAfter s t 2

/-- `SWAP g` (R237): the nibbles change places, JF is 1, ZF is not written. `ROLD A,(src)`, `RORD A,(src)`
(R238, R239): the low nibble of A and the memory byte, rotated by a digit; JF is 1. -/
def Obligations.NibbleInstructions : Prop :=
  ∀ (s : State) (i : Instr),
    (∀ g, i.form = .swap g → encode i = [codeByte 0xE8 g.code, 0xFF] ∧ ∃ t res, exec i s = .next t ∧ writesR8 s t g res ∧
      res.toNat = 16 * ((readR8 s g).toNat % 16) + (readR8 s g).toNat / 16 ∧
      t.psw = { s.psw with jf := true } ∧ keepsMemory s t ∧ continuesAfter s t 2) ∧
    (∀ m, s.wf = true →
      let s1 := srcBegin m s
      let a := srcAddr m s1
      let v := (memRead8 s a).toNat
      let acc := (readR8 s .a).toNat
      (i.form = .rold m → ∃ t na nm, exec i s = .next t ∧ writesR8 s1 t .a na ∧ storesByte s t a nm ∧
        na.toNat = 16 * (acc / 16) + v / 16 ∧ nm.toNat = 16 * (v % 16) + acc % 16 ∧
        t.psw = { s.psw with jf := true } ∧ continuesAfter s t (2 + srcExtra m)) ∧
      (i.form = .rord m → ∃ t na nm, exec i s = .next t ∧ writesR8 s1 t .a na ∧ storesByte s t a nm ∧
        na.toNat = 16 * (acc / 16) + v % 16 ∧ nm.toNat = 16 * (acc % 16) + v / 16 ∧
        t.psw = { s.psw with jf := true } ∧ continuesAfter s t (2 + srcExtra m)))

/-- `ROLD` followed by `RORD` on the same address restores A and the memory (R240). The modes whose address the
first instruction moves, `(+SP)` and `(PC+A)`, do not name the same address twice. -/
def Obligations.RoldThenRord : Prop :=
  ∀ (s : State) (i j : Instr) (m : Src), s.wf = true → m ≠ .incSP → m ≠ .pcA →
    i.form = .rold m → j.form = .rord m →
    ∃ t u, exec i s = .next t ∧ exec j t = .next u ∧ keepsRegisters s u ∧ keepsMemory s u ∧
      (∀ b, b ≠ srcAddr m s → memRead8 t b = memRead8 s b)

/-! Bits and flags -/

/-- `SET g.b`, `CLR g.b`, `CPL g.b` (R251, R255, R270): ZF and JF are the inverse of the old bit. -/
def Obligations.BitOfRegister : Prop :=
  ∀ (s : State) (i : Instr) (op : BitOp) (g : Reg8) (b : BitNo), i.form = .bitGB op g b →
    let old := bitOf (readR8 s g) b.toNat
    let new := match op with | .set => true | .clr => false | .cpl => !old
    encode i = [codeByte 0xE8 g.code,
      codeByte (match op with | .set => 0xC0 | .clr => 0xC8 | .cpl => 0xE0) b] ∧
    ∃ t, exec i s = .next t ∧ writesR8 s t g (setBit (readR8 s g) b.toNat new) ∧
      t.psw = { s.psw with jf := !old, zf := !old } ∧ keepsMemory s t ∧ continuesAfter s t 2

/-- `SET`, `CLR`, `CPL` on a memory bit `.b` or `.A`, long and short forms (R252 to R258, R271, R272), `DI` and
`EI` among them: one byte changes in one bit, ZF and JF are the inverse of the old bit. -/
def Obligations.BitOfMemory : Prop :=
  ∀ (s : State) (i : Instr) (op : BitOp) (m : Src) (k len : Nat), s.wf = true →
    (∃ b, i.form = .bitSrcB op m b ∧ k = b.toNat ∧ len = 2 + srcExtra m) ∨
      (i.form = .bitSrcA op m ∧ k = (readR8 s .a).toNat % 8 ∧ len = 2 + srcExtra m) ∨
      (∃ x b, i.form = .setXB x b ∧ op = .set ∧ m = .x x ∧ k = b.toNat ∧ len = 2) ∨
      (∃ x b, i.form = .clrXB x b ∧ op = .clr ∧ m = .x x ∧ k = b.toNat ∧ len = 2) →
    let s1 := srcBegin m s
    let a := srcAddr m s1
    let old := bitOf (memRead8 s a) k
    let new := match op with | .set => true | .clr => false | .cpl => !old
    ∃ t, exec i s = .next t ∧ storesByte s t a (setBit (memRead8 s a) k new) ∧ keepsRegisters s1 t ∧
      t.psw = { s.psw with jf := !old, zf := !old } ∧ continuesAfter s t len

/-- `LD CF,…` in its five forms, `TEST` among them (R260 to R264), and `XOR CF,…` (R276, R277): CF is the bit,
or CF xor the bit, and JF its inverse (R259, the spec's resolution of C10 and C27); nothing else changes. -/
def Obligations.CarryFromBit : Prop :=
  ∀ (s : State) (i : Instr) (c : Bool) (s1 : State) (len : Nat),
    (∃ g b, s1 = s ∧ len = 2 ∧
      ((i.form = .ldCFGB g b ∧ c = bitOf (readR8 s g) b.toNat) ∨
        (i.form = .xorCFGB g b ∧ c = (s.psw.cf ^^ bitOf (readR8 s g) b.toNat)))) ∨
      (∃ x b, s1 = s ∧ len = 2 ∧ i.form = .ldCFXB x b ∧ c = bitOf (memRead8 s (zext16 x)) b.toNat) ∨
      (∃ m b, s1 = srcBegin m s ∧ len = 2 + srcExtra m ∧
        ((i.form = .ldCFSrcB m b ∧ c = bitOf (memRead8 s (srcAddr m s1)) b.toNat) ∨
          (i.form = .xorCFSrcB m b ∧ c = (s.psw.cf ^^ bitOf (memRead8 s (srcAddr m s1)) b.toNat)))) ∨
      (∃ m, s1 = srcBegin m s ∧ len = 2 + srcExtra m ∧ i.form = .ldCFSrcA m ∧
        c = bitOf (memRead8 s (srcAddr m s1)) ((readR8 s .a).toNat % 8)) →
    ∃ t, exec i s = .next t ∧ keepsRegisters s1 t ∧ keepsMemory s t ∧
      t.psw = { s.psw with jf := !c, cf := c } ∧ continuesAfter s t len

/-- `LD g.b,CF`, `LD (src).b,CF`, `LD (src).A,CF` (R265, R266, R267): the bit receives CF, JF is 1. -/
def Obligations.StoreCarryToBit : Prop :=
  ∀ (s : State) (i : Instr), s.wf = true →
    (∀ g b, i.form = .ldGBCF g b → ∃ t, exec i s = .next t ∧
      writesR8 s t g (setBit (readR8 s g) b.toNat s.psw.cf) ∧ t.psw = { s.psw with jf := true } ∧
      keepsMemory s t ∧ continuesAfter s t 2) ∧
    (∀ m k, ((∃ b, i.form = .ldSrcBCF m b ∧ k = b.toNat) ∨
        (i.form = .ldSrcACF m ∧ k = (readR8 s .a).toNat % 8)) →
      let a := srcAddr m (srcBegin m s)
      ∃ t, exec i s = .next t ∧ storesByte s t a (setBit (memRead8 s a) k s.psw.cf) ∧
        keepsRegisters (srcBegin m s) t ∧ t.psw = { s.psw with jf := true } ∧
        continuesAfter s t (2 + srcExtra m))

/-- `SET CF`, `CLR CF`, `CPL CF` (R280, R281, R282) and `NOP` (R335): their bytes and their whole effect. -/
def Obligations.CarryInstructionsAndNop : Prop :=
  ∀ (s : State) (i : Instr),
    (i.form = .setCF → encode i = [0x05] ∧
      exec i s = .next ((s.withPsw { s.psw with cf := true, jf := false }).withPc (s.pc + 1))) ∧
    (i.form = .clrCF → encode i = [0x04] ∧
      exec i s = .next ((s.withPsw { s.psw with cf := false, jf := true }).withPc (s.pc + 1))) ∧
    (i.form = .cplCF → encode i = [0x06] ∧
      exec i s = .next ((s.withPsw { s.psw with cf := !s.psw.cf, jf := s.psw.cf }).withPc (s.pc + 1))) ∧
    (i.form = .nop → encode i = [0x00] ∧ exec i s = .next (s.withPc (s.pc + 1)))

/-- `DI`, `EI` (R283, R284): the inverse of IMF to ZF and JF, then IMF cleared or set; bits 7..1 of data address
0x003A and every other byte stay. That IMF is bit 0 of data address 0x003A is the spec's decision D11 (log
entry 16). -/
def Obligations.DisableEnableInterrupts : Prop :=
  ∀ (s : State), s.wf = true →
    (∃ t, exec .di s = .next t ∧ t.imf = false ∧ t.psw = { s.psw with jf := !s.imf, zf := !s.imf } ∧
      keepsRegisters s t ∧ memRead8 t 0x003A = setBit (memRead8 s 0x003A) 0 false ∧
      (∀ b, b ≠ 0x003A → memRead8 t b = memRead8 s b) ∧ continuesAfter s t 2) ∧
    (∃ t, exec .ei s = .next t ∧ t.imf = true ∧ t.psw = { s.psw with jf := !s.imf, zf := !s.imf } ∧
      keepsRegisters s t ∧ memRead8 t 0x003A = setBit (memRead8 s 0x003A) 0 true ∧
      (∀ b, b ≠ 0x003A → memRead8 t b = memRead8 s b) ∧ continuesAfter s t 2)

/-! Jumps, calls, returns -/

/-- `JRS`, `JR cc` in both forms, `JR a` (R87, R290 to R296): taken exactly when the condition holds on the flags
before, to the base plus the signed displacement; JF is 1 either way and nothing else changes. The second half
says what the sixteen conditions are. -/
def Obligations.RelativeJumps : Prop :=
  (∀ (s : State) (i : Instr) (taken : Bool) (base len : Nat) (disp : Int),
    (∃ d, i.form = .jrs true d ∧ taken = s.psw.jf ∧ base = 2 ∧ len = 1 ∧ disp = d.toInt) ∨
      (∃ d, i.form = .jrs false d ∧ taken = !s.psw.jf ∧ base = 2 ∧ len = 1 ∧ disp = d.toInt) ∨
      (∃ c d, i.form = .jrCC c d ∧ taken = condHolds c s.psw ∧ base = 2 ∧ len = 2 ∧ disp = d.toInt) ∨
      (∃ c d, i.form = .jrCCLong c d ∧ taken = condLongHolds c s.psw ∧ base = 3 ∧ len = 3 ∧ disp = d.toInt) ∨
      (∃ d, i.form = .jrA d ∧ taken = true ∧ base = 2 ∧ len = 2 ∧ disp = d.toInt) →
    ∃ t, exec i s = .next t ∧
      t.pc = (if taken then BitVec.ofInt 16 (s.pc.toNat + base + disp) else s.pcPlus len) ∧
      t.psw = { s.psw with jf := true } ∧ keepsRegisters s t ∧ keepsMemory s t ∧ keepsHost s t) ∧
  ∀ p : Psw,
    (condHolds .z p = p.zf ∧ condHolds .nz p = !p.zf ∧ condHolds .cs p = p.cf ∧ condHolds .cc p = !p.cf ∧
      condHolds .le p = (p.cf || p.zf) ∧ condHolds .gt p = (!p.cf && !p.zf) ∧ condHolds .t p = p.jf ∧
      condHolds .f p = !p.jf) ∧
    (condLongHolds .m p = p.sf ∧ condLongHolds .p p = !p.sf ∧ condLongHolds .slt p = (p.sf != p.vf) ∧
      condLongHolds .sge p = (p.sf == p.vf) ∧ condLongHolds .sle p = (p.zf || p.sf != p.vf) ∧
      condLongHolds .sgt p = (!p.zf && p.sf == p.vf) ∧ condLongHolds .vs p = p.vf ∧
      condLongHolds .vc p = !p.vf)

/-- After `CMP r,g` or `CMP rr,gg` the conditions compare: unsigned `CS LE GT CC`, signed `SLT SLE SGT SGE`
(R199, R294, R295; the signed half rests on the formula of VF, log entry 7). -/
def Obligations.CompareThenBranch : Prop :=
  ∀ (s : State) (i : Instr),
    (∀ r g, i.form = .aluRG .cmp r g → ∃ t, exec i s = .next t ∧
      let x := readR8 s r
      let y := readR8 s g
      (condHolds .z t.psw = true ↔ x = y) ∧ (condHolds .cs t.psw = true ↔ x.toNat < y.toNat) ∧
      (condHolds .le t.psw = true ↔ x.toNat ≤ y.toNat) ∧ (condHolds .gt t.psw = true ↔ y.toNat < x.toNat) ∧
      (condHolds .cc t.psw = true ↔ y.toNat ≤ x.toNat) ∧ (condLongHolds .slt t.psw = true ↔ x.toInt < y.toInt) ∧
      (condLongHolds .sle t.psw = true ↔ x.toInt ≤ y.toInt) ∧
      (condLongHolds .sgt t.psw = true ↔ y.toInt < x.toInt) ∧
      (condLongHolds .sge t.psw = true ↔ y.toInt ≤ x.toInt)) ∧
    (∀ rr gg, i.form = .aluRRGG .cmp rr gg → ∃ t, exec i s = .next t ∧
      let x := readR16 s rr
      let y := readR16 s gg
      (condHolds .z t.psw = true ↔ x = y) ∧ (condHolds .cs t.psw = true ↔ x.toNat < y.toNat) ∧
      (condHolds .le t.psw = true ↔ x.toNat ≤ y.toNat) ∧ (condHolds .gt t.psw = true ↔ y.toNat < x.toNat) ∧
      (condHolds .cc t.psw = true ↔ y.toNat ≤ x.toNat) ∧ (condLongHolds .slt t.psw = true ↔ x.toInt < y.toInt) ∧
      (condLongHolds .sle t.psw = true ↔ x.toInt ≤ y.toInt) ∧
      (condLongHolds .sgt t.psw = true ↔ y.toInt < x.toInt) ∧
      (condLongHolds .sge t.psw = true ↔ y.toInt ≤ x.toInt))

/-- `JP mn`, `JP gg`, `JP (src)` (R297, R298, R299): PC and, in `(+SP)`, SP; no flag, JF included. The word of
`JP (src)` is read from the data area. -/
def Obligations.AbsoluteJumps : Prop :=
  ∀ (s : State) (i : Instr),
    (∀ mn, i.form = .jpMN mn → encode i = [0xFE, loByte mn, hiByte mn] ∧ exec i s = .next (s.withPc mn)) ∧
    (∀ gg, i.form = .jpGG gg → encode i = [codeByte 0xE8 gg.code, 0xFE] ∧
      exec i s = .next (s.withPc (readR16 s gg))) ∧
    (∀ m, i.form = .jpSrc m → ∃ t, exec i s = .next t ∧ t.pc = memRead16 s (srcAddr m (srcBegin m s)) ∧
      keepsRegisters (srcBegin m s) t ∧ t.psw = s.psw ∧ keepsMemory s t ∧ keepsHost s t)

/-- `CALLV n`, `CALL mn`, `CALL gg` (R321, R322, R323): the return address on the stack, high byte at SP, low
byte at SP-1; SP minus 2; no flag. The target of `CALL gg` is `gg` before the push (D24). -/
def Obligations.DirectCalls : Prop :=
  ∀ (s : State) (i : Instr) (target : Word) (bytes : List Byte), s.wf = true →
    (∃ n, i.form = .callv n ∧ target = codeRead16 s (0xFFA0 + 2 * n.setWidth 16) ∧
        bytes = [0x70 + n.setWidth 8]) ∨
      (i.form = .callMN target ∧ bytes = [0xFD, loByte target, hiByte target]) ∨
      (∃ gg, i.form = .callGG gg ∧ target = readR16 s gg ∧ bytes = [codeByte 0xE8 gg.code, 0xFD]) →
    let next := s.pcPlus bytes.length
    encode i = bytes ∧ ∃ t, exec i s = .next t ∧ t.pc = target ∧ t.sp = s.sp - 2 ∧ t.bank0 = s.bank0 ∧ t.bank1 = s.bank1 ∧
      t.psw = s.psw ∧ keepsHost s t ∧
      ∀ b, memRead8 t b = if b = s.sp - 1 then loByte next else if b = s.sp then hiByte next else memRead8 s b

/-- `CALL (src)`. Every source mode but `(+SP)` (R325): the push comes first; the address is formed with the
decremented SP and the target word is read from the data area after the push. `CALL (+SP)` (R326): the return
address replaces the bytes at SP and SP+1, the target is the word that stood at SP+1 and SP+2, SP ends one
lower. No flag, no other register. -/
def Obligations.IndirectCalls : Prop :=
  ∀ (s : State) (i : Instr), s.wf = true →
    (∀ m, i.form = .callSrc m → m ≠ .incSP →
      let next := s.pcPlus (2 + srcExtra m)
      ∃ t, exec i s = .next t ∧ t.pc = memRead16 t (srcAddr m (s.withSp (s.sp - 2))) ∧
        keepsRegisters (s.withSp (s.sp - 2)) t ∧ t.psw = s.psw ∧ keepsHost s t ∧
        ∀ b, memRead8 t b = if b = s.sp - 1 then loByte next else if b = s.sp then hiByte next else memRead8 s b) ∧
    (i.form = .callSrc .incSP → ∃ t, exec i s = .next t ∧
      t.pc = wordOf (memRead8 s (s.sp + 2)) (memRead8 s (s.sp + 1)) ∧
      keepsRegisters (s.withSp (s.sp - 1)) t ∧ t.psw = s.psw ∧ keepsHost s t ∧
      ∀ b, memRead8 t b = if b = s.sp + 1 then hiByte (s.pcPlus 2)
        else if b = s.sp then loByte (s.pcPlus 2) else memRead8 s b)

/-- `RET` (R328): PC from the stack, SP plus 2, nothing else. -/
def Obligations.ReturnFromSubroutine : Prop :=
  ∀ (s : State) (i : Instr), i.form = .ret →
    encode i = [0xFA] ∧
    exec i s = .next ((s.withSp (s.sp + 2)).withPc (wordOf (memRead8 s (s.sp + 2)) (memRead8 s (s.sp + 1))))

/-- `RETI`, `RETN` (R329, R330, R358): PC from SP+1 and SP+2; JF ZF CF HF SF VF RBS from bits 7..1 and IMF from
bit 0 of the byte at SP+3; SP plus 3; bits 7..1 of 0x003A and every other byte stay. That 0x003A shows IMF as its
bit 0 is D11 (log entry 16). -/
def Obligations.ReturnFromHandler : Prop :=
  ∀ (s : State) (i : Instr),
    (i.form = .reti ∧ encode i = [0xFB]) ∨ (i.form = .retn ∧ encode i = [0xE8, 0xFB]) →
    let b := memRead8 s (s.sp + 3)
    ∃ t, exec i s = .next t ∧ t.pc = wordOf (memRead8 s (s.sp + 2)) (memRead8 s (s.sp + 1)) ∧
      t.psw = { jf := bitOf b 7, zf := bitOf b 6, cf := bitOf b 5, hf := bitOf b 4, sf := bitOf b 3,
                vf := bitOf b 2, rbs := bitOf b 1 } ∧
      t.imf = bitOf b 0 ∧ t.sp = s.sp + 3 ∧ t.bank0 = s.bank0 ∧ t.bank1 = s.bank1 ∧ t.data = s.data ∧
      keepsHost s t

/-- `SWI` (R333, R352): JF ZF CF HF SF VF RBS IMF as a byte at SP, the address of the next instruction at SP-1
(high) and SP-2 (low), SP minus 3, IMF clear, PC from the code word at `SWI_VECTOR`; nothing else. Where one of
the three addresses is 0x003A the stack write comes first and the clear of IMF afterwards. The order of the two
bytes of the return address is the spec's resolution of C17 (log entry 22), and that IMF is bit 0 of 0x003A its
decision D11 (log entry 16). -/
def Obligations.SoftwareInterrupt : Prop :=
  ∀ (s : State) (i : Instr), s.wf = true → i.form = .swi →
    encode i = [0xFF] ∧
    ∃ t, exec i s = .next t ∧ t.sp = s.sp - 3 ∧ t.imf = false ∧ t.pc = codeRead16 s Config.swiVector ∧
      t.psw = s.psw ∧ t.bank0 = s.bank0 ∧ t.bank1 = s.bank1 ∧ keepsHost s t ∧
      ∀ b, memRead8 t b =
        let v := if b = s.sp - 2 then loByte (s.pc + 1) else if b = s.sp - 1 then hiByte (s.pc + 1)
          else if b = s.sp then pswByte s.psw s.imf else memRead8 s b
        if b = 0x003A then setBit v 0 false else v

/-- A call and then `RET` come back (R336, R320): PC is the address after the call, and SP, the registers and
the flags are those before it. -/
def Obligations.CallThenReturn : Prop :=
  ∀ (s t : State) (i j : Instr) (len : Nat), s.wf = true →
    (∃ n, i.form = .callv n ∧ len = 1) ∨ (∃ mn, i.form = .callMN mn ∧ len = 3) ∨
      (∃ gg, i.form = .callGG gg ∧ len = 2) ∨ (∃ m, i.form = .callSrc m ∧ m ≠ .incSP ∧ len = 2 + srcExtra m) →
    exec i s = .next t → j.form = .ret →
    ∃ u, exec j t = .next u ∧ u.pc = s.pcPlus len ∧ keepsRegisters s u ∧ u.psw = s.psw

/-- An exception entry and then `RETI` or `RETN` come back (R336, R353, R358): after `SWI` to the instruction
after it, after an accepted request to the instruction that had not begun; SP, PSW, IMF and the registers are
restored. The model's own condition: the stack bytes do not cover 0x003A, whose bit 0 the entry itself clears (D11,
log entry 16). What an accepted request does is the spec's decision D8 (log entry 8). -/
def Obligations.EntryThenReturn : Prop :=
  ∀ (s t : State) (i j : Instr), s.wf = true →
    s.sp ≠ 0x003A → s.sp - 1 ≠ 0x003A → s.sp - 2 ≠ 0x003A → (j.form = .reti ∨ j.form = .retn) →
    (i.form = .swi → exec i s = .next t → ∃ u, exec j t = .next u ∧ u.pc = s.pc + 1 ∧ keepsRegisters s u ∧
      u.psw = s.psw ∧ u.imf = s.imf) ∧
    (∀ source nm, s.event = some (.interrupt source nm) → (nm = true ∨ s.imf = true) → step s = .next t →
      ∃ u, exec j t = .next u ∧ u.pc = s.pc ∧ keepsRegisters s u ∧ u.psw = s.psw ∧ u.imf = s.imf)

/-! The whole machine -/

/-- What an addressing mode does (R58 to R67): the effective address, and that only `(+SP)` and `(SP-)` move SP,
by one. -/
def Obligations.AddressingModes : Prop :=
  ∀ (s : State) (x d : Byte) (vw : Word),
    (srcAddr (.x x) s = zext16 x ∧ srcAddr (.vw vw) s = vw ∧ srcAddr .de s = readR16 s .de ∧
      srcAddr .hl s = readR16 s .hl ∧ srcAddr .ix s = readR16 s .ix ∧ srcAddr .iy s = readR16 s .iy ∧
      srcAddr .incSP s = s.sp ∧ srcAddr .hlC s = readR16 s .hl + sext16 (readR8 s .c) ∧
      srcAddr (.ixd d) s = readR16 s .ix + sext16 d ∧ srcAddr (.iyd d) s = readR16 s .iy + sext16 d ∧
      srcAddr (.spd d) s = s.sp + sext16 d ∧ srcAddr (.hld d) s = readR16 s .hl + sext16 d ∧
      srcAddr .pcA s = s.pc + 2 + sext16 (readR8 s .a)) ∧
    (dstAddr (.x x) s = zext16 x ∧ dstAddr (.vw vw) s = vw ∧ dstAddr .de s = readR16 s .de ∧
      dstAddr .hl s = readR16 s .hl ∧ dstAddr .ix s = readR16 s .ix ∧ dstAddr .iy s = readR16 s .iy ∧
      dstAddr .spDec s = s.sp ∧ dstAddr .hlC s = readR16 s .hl + sext16 (readR8 s .c) ∧
      dstAddr (.ixd d) s = readR16 s .ix + sext16 d ∧ dstAddr (.iyd d) s = readR16 s .iy + sext16 d ∧
      dstAddr (.spd d) s = s.sp + sext16 d ∧ dstAddr (.hld d) s = readR16 s .hl + sext16 d) ∧
    (∀ m, srcBegin m s = if m = .incSP then s.withSp (s.sp + 1) else s) ∧
    (∀ m, dstEnd m s = if m = .spDec then s.withSp (s.sp - 1) else s)

/-- Bit 0 of data address 0x003A is IMF (R57): a read gives the stored bits 7..1 with IMF, a write stores bits
7..1 and sets IMF. -/
def Obligations.ImfAtDataAddress3A : Prop :=
  ∀ (s : State) (v : Byte), s.wf = true →
    bitOf (memRead8 s 0x003A) 0 = s.imf ∧
    (∀ k, 1 ≤ k → bitOf (memRead8 s 0x003A) k = bitOf (memGet s.data 0x003A) k) ∧
    (memWrite8 s 0x003A v).imf = bitOf v 0 ∧ memRead8 (memWrite8 s 0x003A v) 0x003A = v

/-- When the host presents nothing, or a maskable request while `IMF = 0`, and the bytes at `pc` decode to an
instruction, a step is that instruction (R101, R356); the fetched bytes are the code bytes at `pc` and after it,
and what the host presents stays with the host. The `pc` an instruction leaves is part of its own meaning. -/
def Obligations.StepRunsDecoded : Prop :=
  ∀ (s : State) (i : Instr),
    (s.event = none ∨ ∃ source, s.event = some (.interrupt source false) ∧ s.imf = false) →
    decode (windowOf [codeRead8 s s.pc, codeRead8 s (s.pc + 1), codeRead8 s (s.pc + 2), codeRead8 s (s.pc + 3),
      codeRead8 s (s.pc + 4)]) = .ok i →
    step s = exec i s ∧ ∀ t, exec i s = .next t → t.event = s.event

/-- The undefined codes are exactly those of the list (R111), and a step at one of them is refused with its
bytes and no successor state (R110, R361). The refusal is the spec's decision (D5, D15, D18), and that an unlisted
register prefix is undefined is `PREFIX_ALIASES` at its default (D22): log entry 15. -/
def Obligations.UndefinedCodesRefused : Prop :=
  (∀ (l code : List Byte), l.length = 5 → (decode (windowOf l) = .undefined code ↔ undefinedCode l code)) ∧
    ∀ (s : State) (code : List Byte), s.event = none → decode (fetchWindow s) = .undefined code →
      step s = .refused (.undefinedInstruction code)

/-- Reset. The state after reset has IMF 0, RBS 0 and PC the code word at `RESET_VECTOR` (R42), and the reset
event is taken at any boundary, whatever the state and the code at `pc`, with the same three and the code area
kept (R380). Of every other piece of state nothing is said: the spec leaves it open (log entries 1 and 10). -/
def Obligations.Reset : Prop :=
  (State.reset.imf = false ∧ State.reset.psw.rbs = false ∧
    State.reset.pc = codeRead16 State.reset Config.resetVector) ∧
  ∀ s : State, s.event = some .reset →
    ∃ t, step s = .next t ∧ t.imf = false ∧ t.psw.rbs = false ∧ t.pc = codeRead16 s Config.resetVector ∧
      t.code = s.code ∧ t.event = none

/-- Interrupt requests (R356, R357). One that is non-maskable or comes while `IMF = 1` is accepted: the step is
the entry with the current `pc` as return address and `INT_VECTOR(s)` as vector, whatever stands at `pc`. One
that is not accepted is not taken: the instruction at `pc` runs. -/
def Obligations.InterruptRequests : Prop :=
  ∀ (s : State) (source : Nat) (nm : Bool), s.wf = true → s.event = some (.interrupt source nm) →
    ((nm = true ∨ s.imf = true) → ∃ t, step s = .next t ∧ t.imf = false ∧
      t.pc = codeRead16 s (Config.intVector source) ∧ t.psw = s.psw ∧
      keepsRegisters (s.withSp (s.sp - 3)) t ∧ t.code = s.code ∧ t.event = none ∧
      ∀ b, memRead8 t b =
        let v := if b = s.sp - 2 then loByte s.pc else if b = s.sp - 1 then hiByte s.pc
          else if b = s.sp then pswByte s.psw s.imf else memRead8 s b
        if b = 0x003A then setBit v 0 false else v) ∧
    (nm = false → s.imf = false → ∀ i, decode (fetchWindow s) = .ok i → step s = exec i s)

/-- The canonical form holds after reset. -/
def Obligations.ResetIsCanonical : Prop := State.reset.wf = true

/-- Every step keeps the canonical form: both areas stay sorted lists with no default byte listed, and the cell
of 0x003A never stores a second copy of IMF (R52, R54, R57). The form and its default byte are the model's (log
entry 2); that IMF is bit 0 of 0x003A is D11 (log entry 16). -/
def Obligations.StepKeepsCanonicalForm : Prop := ∀ s t : State, s.wf = true → step s = .next t → t.wf = true

/-- Decoding the bytes of a well-formed instruction, whatever follows them, gives that instruction; an assembler
spelling (`TEST`, `DI`, `EI`) gives the basic instruction, which has the same form and the same meaning (R99). -/
def Obligations.DecodeOfEncode : Prop :=
  ∀ (i : Instr) (rest : List Byte), i.wf = true →
    decode (windowOf (encode i ++ rest)) = .ok i.basic ∧ i.basic.form = i.form ∧
      ∀ s, exec i.basic s = exec i s

/-- Whatever five bytes decode to an instruction, it is well-formed and they begin with its encoding, so that no bit
of them is ignored (R101). -/
def Obligations.DecodeReadsEveryBit : Prop :=
  ∀ (w : Window) (i : Instr), decode w = .ok i →
    i.wf = true ∧ i.basic = i ∧ (windowBytes w).take i.length = encode i

/-- No instruction writes the code area, and no step of any kind does (R51, R55, R385): over any run the code
bytes are those of the start. That the areas share no storage is `CODE_DATA_COUPLING` at its default (D1, log
entry 11). -/
def Obligations.CodeAreaIsReadOnly : Prop := ∀ s t : State, Reaches s t → t.code = s.code

/-- Register banks (R25): an instruction leaves the bank that RBS does not select before it, and only
`LD RBS,n`, `LD PSW,n`, `POP PSW`, `RETI`, `RETN` change RBS, with both banks unchanged. That a bank holds IX and IY
and lies outside the data area is the spec's decision D10 (log entry 6). -/
def Obligations.RegisterBanks : Prop :=
  ∀ (s t : State) (i : Instr), exec i s = .next t →
    keepsOtherBank s t ∧
    (t.psw.rbs ≠ s.psw.rbs → formSelectsBank i.form = true) ∧
    (formSelectsBank i.form = true → t.bank0 = s.bank0 ∧ t.bank1 = s.bank1)

/-- A form that stores nothing leaves the data area (R54, R73), and unless it is `RETI` or `RETN` it leaves
IMF too (R360). -/
def Obligations.OnlyStoresChangeMemory : Prop :=
  ∀ (s t : State) (i : Instr), exec i s = .next t → formStores i.form = false →
    t.data = s.data ∧ (∀ b, b ≠ 0x003A → memRead8 t b = memRead8 s b) ∧
      (i.form ≠ .reti → i.form ≠ .retn → keepsMemory s t)

/-- No instruction raises a fault (R351), and none refuses: every instruction, at every state, answers a next
state. That no mode holds an instruction back is the spec's decision D20 (log entry 23). -/
def Obligations.NoInstructionFaults : Prop :=
  ∀ (i : Instr) (s : State), completes (exec i s) ∧ ∀ f : Fault, exec i s ≠ .fault f

/-- The bytes of some instructions, as the spec prints them, decode to them. -/
def Obligations.PrintedBytesDecode : Prop :=
  decode (windowOf [0xE0, 0x72, 0x48]) = .ok (.ldRRAtX .wa 0x72) ∧
    decode (windowOf [0xEA, 0x4B]) = .ok (.ldRRGG .hl .de) ∧ decode (windowOf [0xF6, 0x78]) = .ok (.ldAtSPDecR .a) ∧
    decode (windowOf [0xE8, 0xDE, 0x34]) = .ok (.ldPSWN 0x34) ∧ decode (windowOf [0xEB, 0x01]) = .ok (.addRG .a .b) ∧
    decode (windowOf [0xE8, 0xC7]) = .ok (.setGb .a 7) ∧ decode (windowOf [0xFE, 0xA3, 0xF1]) = .ok (.jpMN 0xF1A3) ∧
    decode (windowOf [0xE8, 0xFB]) = .ok .retn ∧ decode (windowOf [0xE1, 0x78, 0x56, 0x40]) = .ok (.ldRAtVW .a 0x5678) ∧
    decode (windowOf [0xF9, 0x02]) = .ok .ldRBS1 ∧ decode (windowOf [0xEA, 0x7B]) = .ok (.xchRRGG .hl .de)
end

