-- ==== Sys2Proof/Laws/Memory.lean ====
section
/-!
SUPPORT. Laws of the two areas: read after write, and the canonical form is kept by every memory operation.
-/

namespace Sys2Proof.Machine

theorem memWfAbove_cons (lo : Option Nat) (k : Nat) (v : Byte) (rest : Mem) :
    memWfAbove lo ((k, v) :: rest) = true ↔
      (∀ l, lo = some l → l < k) ∧ k < 65536 ∧ v ≠ memDefault ∧ memWfAbove (some k) rest = true := by
  cases lo <;> simp [memWfAbove, and_assoc]

/-- A list above `k` lists nothing at or below `k`. -/
theorem memGet_below (m : Mem) (k a : Nat) (h : memWfAbove (some k) m = true) (ha : a ≤ k) :
    memGet m a = memDefault := by
  induction m generalizing k with
  | nil => rfl
  | cons c rest ih =>
    obtain ⟨j, w⟩ := c
    obtain ⟨h1, -, -, h4⟩ := (memWfAbove_cons _ _ _ _).1 h
    have hj := h1 k rfl
    simp only [memGet, if_neg (show ¬a = j by omega)]
    exact ih j h4 (by omega)

/-- Weaken the lower bound. -/
theorem memWfAbove_mono (m : Mem) (lo : Option Nat) (k : Nat) (h : memWfAbove (some k) m = true)
    (hlo : ∀ l, lo = some l → l ≤ k) : memWfAbove lo m = true := by
  cases m with
  | nil => rfl
  | cons c rest =>
    obtain ⟨j, w⟩ := c
    obtain ⟨h1, h2, h3, h4⟩ := (memWfAbove_cons _ _ _ _).1 h
    exact (memWfAbove_cons _ _ _ _).2
      ⟨fun l hl => Nat.lt_of_le_of_lt (hlo l hl) (h1 k rfl), h2, h3, h4⟩

theorem memGet_memPut_above (m : Mem) (lo : Option Nat) (h : memWfAbove lo m = true) (a b : Nat) (v : Byte) :
    memGet (memPut m a v) b = if b = a then v else memGet m b := by
  induction m generalizing lo with
  | nil => by_cases hv : v = memDefault <;> by_cases hb : b = a <;> simp [memPut, memGet, hv, hb]
  | cons c rest ih =>
    obtain ⟨k, w⟩ := c
    obtain ⟨-, -, -, h4⟩ := (memWfAbove_cons _ _ _ _).1 h
    simp only [memPut]
    split
    · rename_i hak
      split
      · rename_i hv
        split
        · subst_vars
          simp only [memGet, if_neg (show ¬b = k by omega)]
          exact memGet_below rest k b h4 (by omega)
        · rfl
      · simp only [memGet]
    · split
      · subst_vars
        rename_i hv
        split
        · split
          · subst_vars; exact memGet_below rest k k h4 (by omega)
          · rename_i hb; simp [memGet, hb]
        · simp only [memGet]
          split
          · rfl
          · rfl
      · rename_i hak hne
        simp only [memGet]
        split
        · subst_vars; rw [if_neg (fun h => hne h.symm)]
        · exact ih (some k) h4

/-- Read after write (R52, R54): the byte at the written address is the written one, every other is as before. -/
theorem memGet_memPut (m : Mem) (h : memWf m = true) (a b : Nat) (v : Byte) :
    memGet (memPut m a v) b = if b = a then v else memGet m b := memGet_memPut_above m none h a b v

theorem memWfAbove_memPut (m : Mem) (lo : Option Nat) (h : memWfAbove lo m = true) (a : Nat) (v : Byte)
    (ha : a < 65536) (hlo : ∀ l, lo = some l → l < a) : memWfAbove lo (memPut m a v) = true := by
  induction m generalizing lo with
  | nil =>
    simp only [memPut]
    split
    · exact h
    · rename_i hv; exact (memWfAbove_cons _ _ _ _).2 ⟨hlo, ha, hv, rfl⟩
  | cons c rest ih =>
    obtain ⟨k, w⟩ := c
    obtain ⟨h1, h2, h3, h4⟩ := (memWfAbove_cons _ _ _ _).1 h
    simp only [memPut]
    split
    · rename_i hak
      split
      · exact h
      · rename_i hv
        exact (memWfAbove_cons _ _ _ _).2 ⟨hlo, ha, hv, (memWfAbove_cons _ _ _ _).2
          ⟨fun l hl => by cases hl; exact hak, h2, h3, h4⟩⟩
    · split
      · subst_vars
        split
        · exact memWfAbove_mono rest lo _ h4 (fun l hl => Nat.le_of_lt (hlo l hl))
        · rename_i hv
          exact (memWfAbove_cons _ _ _ _).2 ⟨hlo, ha, hv, h4⟩
      · rename_i hak hne
        exact (memWfAbove_cons _ _ _ _).2
          ⟨h1, h2, h3, ih (some k) h4 (fun l hl => by cases hl; omega)⟩

/-- Storing a byte keeps the canonical form. -/
theorem memWf_memPut (m : Mem) (h : memWf m = true) (a : Word) (v : Byte) : memWf (memPut m a.toNat v) = true :=
  memWfAbove_memPut m none h a.toNat v (by have := a.isLt; omega) (by simp)

/-- Storing a data byte keeps the canonical form. -/
theorem memWf_dataPut (m : Mem) (h : memWf m = true) (a : Word) (v : Byte) : memWf (dataPut m a v) = true :=
  memWf_memPut m h a _

/-- Placing a code byte keeps the canonical form. -/
theorem memWf_codePut (m : Mem) (h : memWf m = true) (a : Word) (v : Byte) : memWf (codePut m a v) = true :=
  memWf_memPut m h a v

/-- Placing an instruction keeps the canonical form of the code area. -/
theorem memWf_codePutWindow (m : Mem) (h : memWf m = true) (a : Word) (w : Sys2Proof.Window) :
    memWf (codePutWindow m a w) = true := by
  unfold codePutWindow
  exact memWf_codePut _ (memWf_codePut _ (memWf_codePut _ (memWf_codePut _ (memWf_codePut _ h _ _) _ _) _ _) _ _) _ _

theorem memWf_foldl_dataPut (l : List (Word × Byte)) (m : Mem) (h : memWf m = true) :
    memWf (l.foldl (fun m c => dataPut m c.1 c.2) m) = true := by
  induction l generalizing m with
  | nil => exact h
  | cons c rest ih => exact ih _ (memWf_dataPut m h c.1 c.2)

/-- The data area after a reset event is in canonical form. -/
theorem memWf_freeData (k : Nat) : memWf (freeData k) = true := memWf_foldl_dataPut _ [] rfl

/-- Read after a data store (R57: at 0x003A the area keeps bits 7..1 only). -/
theorem memGet_dataPut (m : Mem) (h : memWf m = true) (a b : Word) (v : Byte) :
    memGet (dataPut m a v) b.toNat =
      if b = a then (if a = Config.imfAddr then setBit v 0 false else v) else memGet m b.toNat := by
  unfold dataPut
  rw [memGet_memPut m h]
  simp only [BitVec.toNat_inj]

/-- Bit 0 of the cell of 0x003A is 0 after a data store if it was before: IMF has one home. -/
theorem imfCell_dataPut (m : Mem) (h : memWf m = true) (a : Word) (v : Byte)
    (h0 : bitOf (memGet m Config.imfAddr.toNat) 0 = false) :
    bitOf (memGet (dataPut m a v) Config.imfAddr.toNat) 0 = false := by
  rw [memGet_dataPut m h]
  split
  · rename_i ha
    rw [if_pos ha.symm]
    simp [bitOf, setBit]
  · exact h0

theorem imfCell_foldl_dataPut (l : List (Word × Byte)) (m : Mem) (h : memWf m = true)
    (h0 : bitOf (memGet m Config.imfAddr.toNat) 0 = false) :
    bitOf (memGet (l.foldl (fun m c => dataPut m c.1 c.2) m) Config.imfAddr.toNat) 0 = false := by
  induction l generalizing m with
  | nil => exact h0
  | cons c rest ih => exact ih _ (memWf_dataPut m h c.1 c.2) (imfCell_dataPut m h c.1 c.2 h0)

/-- After a reset event the cell of 0x003A keeps no copy of IMF. -/
theorem imfCell_freeData (k : Nat) : bitOf (memGet (freeData k) Config.imfAddr.toNat) 0 = false :=
  imfCell_foldl_dataPut _ [] rfl (by decide)

/-- Both areas of the state after reset are in canonical form. -/
theorem reset_memWf : memWf State.reset.data = true ∧ memWf State.reset.code = true := ⟨rfl, rfl⟩

end Sys2Proof.Machine
end

