-- ==== Sys2Proof/Laws/State.lean ====
section
/-!
SUPPORT. One lemma for each field of State and each update, all by `rfl`, and the same for the reads that the
operations make. Later proofs cite these and unfold no record update.
-/

namespace Sys2Proof.Machine

variable (s : State)

/-! `State.withBank0` -/

@[simp] theorem State.withBank0_bank0 (v : Bank) : (s.withBank0 v).bank0 = v := rfl
@[simp] theorem State.withBank0_bank1 (v : Bank) : (s.withBank0 v).bank1 = s.bank1 := rfl
@[simp] theorem State.withBank0_sp (v : Bank) : (s.withBank0 v).sp = s.sp := rfl
@[simp] theorem State.withBank0_pc (v : Bank) : (s.withBank0 v).pc = s.pc := rfl
@[simp] theorem State.withBank0_psw (v : Bank) : (s.withBank0 v).psw = s.psw := rfl
@[simp] theorem State.withBank0_imf (v : Bank) : (s.withBank0 v).imf = s.imf := rfl
@[simp] theorem State.withBank0_data (v : Bank) : (s.withBank0 v).data = s.data := rfl
@[simp] theorem State.withBank0_code (v : Bank) : (s.withBank0 v).code = s.code := rfl
@[simp] theorem State.withBank0_event (v : Bank) : (s.withBank0 v).event = s.event := rfl
@[simp] theorem State.withBank0_draws (v : Bank) : (s.withBank0 v).draws = s.draws := rfl
@[simp] theorem State.withBank0_pcPlus (v : Bank) (k : Nat) : (s.withBank0 v).pcPlus k = s.pcPlus k := rfl
@[simp] theorem memRead8_withBank0 (v : Bank) (a : Word) : memRead8 (s.withBank0 v) a = memRead8 s a := rfl
@[simp] theorem memRead16_withBank0 (v : Bank) (a : Word) : memRead16 (s.withBank0 v) a = memRead16 s a := rfl
@[simp] theorem codeRead8_withBank0 (v : Bank) (a : Word) : codeRead8 (s.withBank0 v) a = codeRead8 s a := rfl
@[simp] theorem codeRead16_withBank0 (v : Bank) (a : Word) : codeRead16 (s.withBank0 v) a = codeRead16 s a := rfl

/-! `State.withBank1` -/

@[simp] theorem State.withBank1_bank0 (v : Bank) : (s.withBank1 v).bank0 = s.bank0 := rfl
@[simp] theorem State.withBank1_bank1 (v : Bank) : (s.withBank1 v).bank1 = v := rfl
@[simp] theorem State.withBank1_sp (v : Bank) : (s.withBank1 v).sp = s.sp := rfl
@[simp] theorem State.withBank1_pc (v : Bank) : (s.withBank1 v).pc = s.pc := rfl
@[simp] theorem State.withBank1_psw (v : Bank) : (s.withBank1 v).psw = s.psw := rfl
@[simp] theorem State.withBank1_imf (v : Bank) : (s.withBank1 v).imf = s.imf := rfl
@[simp] theorem State.withBank1_data (v : Bank) : (s.withBank1 v).data = s.data := rfl
@[simp] theorem State.withBank1_code (v : Bank) : (s.withBank1 v).code = s.code := rfl
@[simp] theorem State.withBank1_event (v : Bank) : (s.withBank1 v).event = s.event := rfl
@[simp] theorem State.withBank1_draws (v : Bank) : (s.withBank1 v).draws = s.draws := rfl
@[simp] theorem State.withBank1_pcPlus (v : Bank) (k : Nat) : (s.withBank1 v).pcPlus k = s.pcPlus k := rfl
@[simp] theorem memRead8_withBank1 (v : Bank) (a : Word) : memRead8 (s.withBank1 v) a = memRead8 s a := rfl
@[simp] theorem memRead16_withBank1 (v : Bank) (a : Word) : memRead16 (s.withBank1 v) a = memRead16 s a := rfl
@[simp] theorem codeRead8_withBank1 (v : Bank) (a : Word) : codeRead8 (s.withBank1 v) a = codeRead8 s a := rfl
@[simp] theorem codeRead16_withBank1 (v : Bank) (a : Word) : codeRead16 (s.withBank1 v) a = codeRead16 s a := rfl

/-! `State.withSp` -/

@[simp] theorem State.withSp_bank0 (v : Word) : (s.withSp v).bank0 = s.bank0 := rfl
@[simp] theorem State.withSp_bank1 (v : Word) : (s.withSp v).bank1 = s.bank1 := rfl
@[simp] theorem State.withSp_sp (v : Word) : (s.withSp v).sp = v := rfl
@[simp] theorem State.withSp_pc (v : Word) : (s.withSp v).pc = s.pc := rfl
@[simp] theorem State.withSp_psw (v : Word) : (s.withSp v).psw = s.psw := rfl
@[simp] theorem State.withSp_imf (v : Word) : (s.withSp v).imf = s.imf := rfl
@[simp] theorem State.withSp_data (v : Word) : (s.withSp v).data = s.data := rfl
@[simp] theorem State.withSp_code (v : Word) : (s.withSp v).code = s.code := rfl
@[simp] theorem State.withSp_event (v : Word) : (s.withSp v).event = s.event := rfl
@[simp] theorem State.withSp_draws (v : Word) : (s.withSp v).draws = s.draws := rfl
@[simp] theorem State.withSp_pcPlus (v : Word) (k : Nat) : (s.withSp v).pcPlus k = s.pcPlus k := rfl
@[simp] theorem State.withSp_bank (v : Word) : (s.withSp v).bank = s.bank := rfl
@[simp] theorem readR8_withSp (v : Word) (r : Reg8) : readR8 (s.withSp v) r = readR8 s r := rfl
@[simp] theorem memRead8_withSp (v : Word) (a : Word) : memRead8 (s.withSp v) a = memRead8 s a := rfl
@[simp] theorem memRead16_withSp (v : Word) (a : Word) : memRead16 (s.withSp v) a = memRead16 s a := rfl
@[simp] theorem codeRead8_withSp (v : Word) (a : Word) : codeRead8 (s.withSp v) a = codeRead8 s a := rfl
@[simp] theorem codeRead16_withSp (v : Word) (a : Word) : codeRead16 (s.withSp v) a = codeRead16 s a := rfl

/-! `State.withPc` -/

@[simp] theorem State.withPc_bank0 (v : Word) : (s.withPc v).bank0 = s.bank0 := rfl
@[simp] theorem State.withPc_bank1 (v : Word) : (s.withPc v).bank1 = s.bank1 := rfl
@[simp] theorem State.withPc_sp (v : Word) : (s.withPc v).sp = s.sp := rfl
@[simp] theorem State.withPc_pc (v : Word) : (s.withPc v).pc = v := rfl
@[simp] theorem State.withPc_psw (v : Word) : (s.withPc v).psw = s.psw := rfl
@[simp] theorem State.withPc_imf (v : Word) : (s.withPc v).imf = s.imf := rfl
@[simp] theorem State.withPc_data (v : Word) : (s.withPc v).data = s.data := rfl
@[simp] theorem State.withPc_code (v : Word) : (s.withPc v).code = s.code := rfl
@[simp] theorem State.withPc_event (v : Word) : (s.withPc v).event = s.event := rfl
@[simp] theorem State.withPc_draws (v : Word) : (s.withPc v).draws = s.draws := rfl
@[simp] theorem State.withPc_bank (v : Word) : (s.withPc v).bank = s.bank := rfl
@[simp] theorem readR8_withPc (v : Word) (r : Reg8) : readR8 (s.withPc v) r = readR8 s r := rfl
@[simp] theorem readR16_withPc (v : Word) (r : Reg16) : readR16 (s.withPc v) r = readR16 s r := by
  cases r <;> rfl
@[simp] theorem memRead8_withPc (v : Word) (a : Word) : memRead8 (s.withPc v) a = memRead8 s a := rfl
@[simp] theorem memRead16_withPc (v : Word) (a : Word) : memRead16 (s.withPc v) a = memRead16 s a := rfl
@[simp] theorem codeRead8_withPc (v : Word) (a : Word) : codeRead8 (s.withPc v) a = codeRead8 s a := rfl
@[simp] theorem codeRead16_withPc (v : Word) (a : Word) : codeRead16 (s.withPc v) a = codeRead16 s a := rfl

/-! `State.withPsw` -/

@[simp] theorem State.withPsw_bank0 (v : Psw) : (s.withPsw v).bank0 = s.bank0 := rfl
@[simp] theorem State.withPsw_bank1 (v : Psw) : (s.withPsw v).bank1 = s.bank1 := rfl
@[simp] theorem State.withPsw_sp (v : Psw) : (s.withPsw v).sp = s.sp := rfl
@[simp] theorem State.withPsw_pc (v : Psw) : (s.withPsw v).pc = s.pc := rfl
@[simp] theorem State.withPsw_psw (v : Psw) : (s.withPsw v).psw = v := rfl
@[simp] theorem State.withPsw_imf (v : Psw) : (s.withPsw v).imf = s.imf := rfl
@[simp] theorem State.withPsw_data (v : Psw) : (s.withPsw v).data = s.data := rfl
@[simp] theorem State.withPsw_code (v : Psw) : (s.withPsw v).code = s.code := rfl
@[simp] theorem State.withPsw_event (v : Psw) : (s.withPsw v).event = s.event := rfl
@[simp] theorem State.withPsw_draws (v : Psw) : (s.withPsw v).draws = s.draws := rfl
@[simp] theorem State.withPsw_pcPlus (v : Psw) (k : Nat) : (s.withPsw v).pcPlus k = s.pcPlus k := rfl
@[simp] theorem memRead8_withPsw (v : Psw) (a : Word) : memRead8 (s.withPsw v) a = memRead8 s a := rfl
@[simp] theorem memRead16_withPsw (v : Psw) (a : Word) : memRead16 (s.withPsw v) a = memRead16 s a := rfl
@[simp] theorem codeRead8_withPsw (v : Psw) (a : Word) : codeRead8 (s.withPsw v) a = codeRead8 s a := rfl
@[simp] theorem codeRead16_withPsw (v : Psw) (a : Word) : codeRead16 (s.withPsw v) a = codeRead16 s a := rfl

/-! `State.withImf` -/

@[simp] theorem State.withImf_bank0 (v : Bool) : (s.withImf v).bank0 = s.bank0 := rfl
@[simp] theorem State.withImf_bank1 (v : Bool) : (s.withImf v).bank1 = s.bank1 := rfl
@[simp] theorem State.withImf_sp (v : Bool) : (s.withImf v).sp = s.sp := rfl
@[simp] theorem State.withImf_pc (v : Bool) : (s.withImf v).pc = s.pc := rfl
@[simp] theorem State.withImf_psw (v : Bool) : (s.withImf v).psw = s.psw := rfl
@[simp] theorem State.withImf_imf (v : Bool) : (s.withImf v).imf = v := rfl
@[simp] theorem State.withImf_data (v : Bool) : (s.withImf v).data = s.data := rfl
@[simp] theorem State.withImf_code (v : Bool) : (s.withImf v).code = s.code := rfl
@[simp] theorem State.withImf_event (v : Bool) : (s.withImf v).event = s.event := rfl
@[simp] theorem State.withImf_draws (v : Bool) : (s.withImf v).draws = s.draws := rfl
@[simp] theorem State.withImf_pcPlus (v : Bool) (k : Nat) : (s.withImf v).pcPlus k = s.pcPlus k := rfl
@[simp] theorem State.withImf_bank (v : Bool) : (s.withImf v).bank = s.bank := rfl
@[simp] theorem readR8_withImf (v : Bool) (r : Reg8) : readR8 (s.withImf v) r = readR8 s r := rfl
@[simp] theorem readR16_withImf (v : Bool) (r : Reg16) : readR16 (s.withImf v) r = readR16 s r := by
  cases r <;> rfl
@[simp] theorem codeRead8_withImf (v : Bool) (a : Word) : codeRead8 (s.withImf v) a = codeRead8 s a := rfl
@[simp] theorem codeRead16_withImf (v : Bool) (a : Word) : codeRead16 (s.withImf v) a = codeRead16 s a := rfl

/-! `State.withData` -/

@[simp] theorem State.withData_bank0 (v : Mem) : (s.withData v).bank0 = s.bank0 := rfl
@[simp] theorem State.withData_bank1 (v : Mem) : (s.withData v).bank1 = s.bank1 := rfl
@[simp] theorem State.withData_sp (v : Mem) : (s.withData v).sp = s.sp := rfl
@[simp] theorem State.withData_pc (v : Mem) : (s.withData v).pc = s.pc := rfl
@[simp] theorem State.withData_psw (v : Mem) : (s.withData v).psw = s.psw := rfl
@[simp] theorem State.withData_imf (v : Mem) : (s.withData v).imf = s.imf := rfl
@[simp] theorem State.withData_data (v : Mem) : (s.withData v).data = v := rfl
@[simp] theorem State.withData_code (v : Mem) : (s.withData v).code = s.code := rfl
@[simp] theorem State.withData_event (v : Mem) : (s.withData v).event = s.event := rfl
@[simp] theorem State.withData_draws (v : Mem) : (s.withData v).draws = s.draws := rfl
@[simp] theorem State.withData_pcPlus (v : Mem) (k : Nat) : (s.withData v).pcPlus k = s.pcPlus k := rfl
@[simp] theorem State.withData_bank (v : Mem) : (s.withData v).bank = s.bank := rfl
@[simp] theorem readR8_withData (v : Mem) (r : Reg8) : readR8 (s.withData v) r = readR8 s r := rfl
@[simp] theorem readR16_withData (v : Mem) (r : Reg16) : readR16 (s.withData v) r = readR16 s r := by
  cases r <;> rfl
@[simp] theorem codeRead8_withData (v : Mem) (a : Word) : codeRead8 (s.withData v) a = codeRead8 s a := rfl
@[simp] theorem codeRead16_withData (v : Mem) (a : Word) : codeRead16 (s.withData v) a = codeRead16 s a := rfl

/-! `State.withCode` -/

@[simp] theorem State.withCode_bank0 (v : Mem) : (s.withCode v).bank0 = s.bank0 := rfl
@[simp] theorem State.withCode_bank1 (v : Mem) : (s.withCode v).bank1 = s.bank1 := rfl
@[simp] theorem State.withCode_sp (v : Mem) : (s.withCode v).sp = s.sp := rfl
@[simp] theorem State.withCode_pc (v : Mem) : (s.withCode v).pc = s.pc := rfl
@[simp] theorem State.withCode_psw (v : Mem) : (s.withCode v).psw = s.psw := rfl
@[simp] theorem State.withCode_imf (v : Mem) : (s.withCode v).imf = s.imf := rfl
@[simp] theorem State.withCode_data (v : Mem) : (s.withCode v).data = s.data := rfl
@[simp] theorem State.withCode_code (v : Mem) : (s.withCode v).code = v := rfl
@[simp] theorem State.withCode_event (v : Mem) : (s.withCode v).event = s.event := rfl
@[simp] theorem State.withCode_draws (v : Mem) : (s.withCode v).draws = s.draws := rfl
@[simp] theorem State.withCode_pcPlus (v : Mem) (k : Nat) : (s.withCode v).pcPlus k = s.pcPlus k := rfl
@[simp] theorem State.withCode_bank (v : Mem) : (s.withCode v).bank = s.bank := rfl
@[simp] theorem readR8_withCode (v : Mem) (r : Reg8) : readR8 (s.withCode v) r = readR8 s r := rfl
@[simp] theorem readR16_withCode (v : Mem) (r : Reg16) : readR16 (s.withCode v) r = readR16 s r := by
  cases r <;> rfl
@[simp] theorem memRead8_withCode (v : Mem) (a : Word) : memRead8 (s.withCode v) a = memRead8 s a := rfl
@[simp] theorem memRead16_withCode (v : Mem) (a : Word) : memRead16 (s.withCode v) a = memRead16 s a := rfl

/-! `State.withEvent` -/

@[simp] theorem State.withEvent_bank0 (v : Option HostEvent) : (s.withEvent v).bank0 = s.bank0 := rfl
@[simp] theorem State.withEvent_bank1 (v : Option HostEvent) : (s.withEvent v).bank1 = s.bank1 := rfl
@[simp] theorem State.withEvent_sp (v : Option HostEvent) : (s.withEvent v).sp = s.sp := rfl
@[simp] theorem State.withEvent_pc (v : Option HostEvent) : (s.withEvent v).pc = s.pc := rfl
@[simp] theorem State.withEvent_psw (v : Option HostEvent) : (s.withEvent v).psw = s.psw := rfl
@[simp] theorem State.withEvent_imf (v : Option HostEvent) : (s.withEvent v).imf = s.imf := rfl
@[simp] theorem State.withEvent_data (v : Option HostEvent) : (s.withEvent v).data = s.data := rfl
@[simp] theorem State.withEvent_code (v : Option HostEvent) : (s.withEvent v).code = s.code := rfl
@[simp] theorem State.withEvent_event (v : Option HostEvent) : (s.withEvent v).event = v := rfl
@[simp] theorem State.withEvent_draws (v : Option HostEvent) : (s.withEvent v).draws = s.draws := rfl
@[simp] theorem State.withEvent_pcPlus (v : Option HostEvent) (k : Nat) : (s.withEvent v).pcPlus k = s.pcPlus k := rfl
@[simp] theorem State.withEvent_bank (v : Option HostEvent) : (s.withEvent v).bank = s.bank := rfl
@[simp] theorem readR8_withEvent (v : Option HostEvent) (r : Reg8) : readR8 (s.withEvent v) r = readR8 s r := rfl
@[simp] theorem readR16_withEvent (v : Option HostEvent) (r : Reg16) : readR16 (s.withEvent v) r = readR16 s r := by
  cases r <;> rfl
@[simp] theorem memRead8_withEvent (v : Option HostEvent) (a : Word) : memRead8 (s.withEvent v) a = memRead8 s a := rfl
@[simp] theorem memRead16_withEvent (v : Option HostEvent) (a : Word) : memRead16 (s.withEvent v) a = memRead16 s a := rfl
@[simp] theorem codeRead8_withEvent (v : Option HostEvent) (a : Word) : codeRead8 (s.withEvent v) a = codeRead8 s a := rfl
@[simp] theorem codeRead16_withEvent (v : Option HostEvent) (a : Word) : codeRead16 (s.withEvent v) a = codeRead16 s a := rfl

/-! `State.withDraws` -/

@[simp] theorem State.withDraws_bank0 (v : Nat) : (s.withDraws v).bank0 = s.bank0 := rfl
@[simp] theorem State.withDraws_bank1 (v : Nat) : (s.withDraws v).bank1 = s.bank1 := rfl
@[simp] theorem State.withDraws_sp (v : Nat) : (s.withDraws v).sp = s.sp := rfl
@[simp] theorem State.withDraws_pc (v : Nat) : (s.withDraws v).pc = s.pc := rfl
@[simp] theorem State.withDraws_psw (v : Nat) : (s.withDraws v).psw = s.psw := rfl
@[simp] theorem State.withDraws_imf (v : Nat) : (s.withDraws v).imf = s.imf := rfl
@[simp] theorem State.withDraws_data (v : Nat) : (s.withDraws v).data = s.data := rfl
@[simp] theorem State.withDraws_code (v : Nat) : (s.withDraws v).code = s.code := rfl
@[simp] theorem State.withDraws_event (v : Nat) : (s.withDraws v).event = s.event := rfl
@[simp] theorem State.withDraws_draws (v : Nat) : (s.withDraws v).draws = v := rfl
@[simp] theorem State.withDraws_pcPlus (v : Nat) (k : Nat) : (s.withDraws v).pcPlus k = s.pcPlus k := rfl
@[simp] theorem State.withDraws_bank (v : Nat) : (s.withDraws v).bank = s.bank := rfl
@[simp] theorem readR8_withDraws (v : Nat) (r : Reg8) : readR8 (s.withDraws v) r = readR8 s r := rfl
@[simp] theorem readR16_withDraws (v : Nat) (r : Reg16) : readR16 (s.withDraws v) r = readR16 s r := by
  cases r <;> rfl
@[simp] theorem memRead8_withDraws (v : Nat) (a : Word) : memRead8 (s.withDraws v) a = memRead8 s a := rfl
@[simp] theorem memRead16_withDraws (v : Nat) (a : Word) : memRead16 (s.withDraws v) a = memRead16 s a := rfl
@[simp] theorem codeRead8_withDraws (v : Nat) (a : Word) : codeRead8 (s.withDraws v) a = codeRead8 s a := rfl
@[simp] theorem codeRead16_withDraws (v : Nat) (a : Word) : codeRead16 (s.withDraws v) a = codeRead16 s a := rfl

/-! `State.advance` -/

@[simp] theorem State.advance_bank0 (k : Nat) : (s.advance k).bank0 = s.bank0 := rfl
@[simp] theorem State.advance_bank1 (k : Nat) : (s.advance k).bank1 = s.bank1 := rfl
@[simp] theorem State.advance_sp (k : Nat) : (s.advance k).sp = s.sp := rfl
@[simp] theorem State.advance_pc (k : Nat) : (s.advance k).pc = s.pcPlus k := rfl
@[simp] theorem State.advance_psw (k : Nat) : (s.advance k).psw = s.psw := rfl
@[simp] theorem State.advance_imf (k : Nat) : (s.advance k).imf = s.imf := rfl
@[simp] theorem State.advance_data (k : Nat) : (s.advance k).data = s.data := rfl
@[simp] theorem State.advance_code (k : Nat) : (s.advance k).code = s.code := rfl
@[simp] theorem State.advance_event (k : Nat) : (s.advance k).event = s.event := rfl
@[simp] theorem State.advance_draws (k : Nat) : (s.advance k).draws = s.draws := rfl
@[simp] theorem State.advance_bank (k : Nat) : (s.advance k).bank = s.bank := rfl
@[simp] theorem readR8_advance (k : Nat) (r : Reg8) : readR8 (s.advance k) r = readR8 s r := rfl
@[simp] theorem readR16_advance (k : Nat) (r : Reg16) : readR16 (s.advance k) r = readR16 s r := by cases r <;> rfl
@[simp] theorem memRead8_advance (k : Nat) (a : Word) : memRead8 (s.advance k) a = memRead8 s a := rfl
@[simp] theorem codeRead16_advance (k : Nat) (a : Word) : codeRead16 (s.advance k) a = codeRead16 s a := rfl

/-! Flag writes -/

@[simp] theorem setJ_bank0 (j : Bool) : (setJ s j).bank0 = s.bank0 := rfl
@[simp] theorem setJ_bank1 (j : Bool) : (setJ s j).bank1 = s.bank1 := rfl
@[simp] theorem setJ_sp (j : Bool) : (setJ s j).sp = s.sp := rfl
@[simp] theorem setJ_pc (j : Bool) : (setJ s j).pc = s.pc := rfl
@[simp] theorem setJ_psw (j : Bool) : (setJ s j).psw = { s.psw with jf := j } := rfl
@[simp] theorem setJ_imf (j : Bool) : (setJ s j).imf = s.imf := rfl
@[simp] theorem setJ_data (j : Bool) : (setJ s j).data = s.data := rfl
@[simp] theorem setJ_code (j : Bool) : (setJ s j).code = s.code := rfl
@[simp] theorem setJ_event (j : Bool) : (setJ s j).event = s.event := rfl
@[simp] theorem setJ_draws (j : Bool) : (setJ s j).draws = s.draws := rfl
@[simp] theorem setJ_bank (j : Bool) : (setJ s j).bank = s.bank := rfl
@[simp] theorem setJ_pcPlus (j : Bool) (k : Nat) : (setJ s j).pcPlus k = s.pcPlus k := rfl
@[simp] theorem readR8_setJ (j : Bool) (r : Reg8) : readR8 (setJ s j) r = readR8 s r := rfl
@[simp] theorem readR16_setJ (j : Bool) (r : Reg16) : readR16 (setJ s j) r = readR16 s r := by cases r <;> rfl
@[simp] theorem memRead8_setJ (j : Bool) (a : Word) : memRead8 (setJ s j) a = memRead8 s a := rfl

@[simp] theorem setJZ_bank0 (j z : Bool) : (setJZ s j z).bank0 = s.bank0 := rfl
@[simp] theorem setJZ_bank1 (j z : Bool) : (setJZ s j z).bank1 = s.bank1 := rfl
@[simp] theorem setJZ_sp (j z : Bool) : (setJZ s j z).sp = s.sp := rfl
@[simp] theorem setJZ_pc (j z : Bool) : (setJZ s j z).pc = s.pc := rfl
@[simp] theorem setJZ_psw (j z : Bool) : (setJZ s j z).psw = { s.psw with jf := j, zf := z } := rfl
@[simp] theorem setJZ_imf (j z : Bool) : (setJZ s j z).imf = s.imf := rfl
@[simp] theorem setJZ_data (j z : Bool) : (setJZ s j z).data = s.data := rfl
@[simp] theorem setJZ_code (j z : Bool) : (setJZ s j z).code = s.code := rfl
@[simp] theorem setJZ_event (j z : Bool) : (setJZ s j z).event = s.event := rfl
@[simp] theorem setJZ_draws (j z : Bool) : (setJZ s j z).draws = s.draws := rfl
@[simp] theorem setJZ_bank (j z : Bool) : (setJZ s j z).bank = s.bank := rfl
@[simp] theorem setJZ_pcPlus (j z : Bool) (k : Nat) : (setJZ s j z).pcPlus k = s.pcPlus k := rfl
@[simp] theorem readR8_setJZ (j z : Bool) (r : Reg8) : readR8 (setJZ s j z) r = readR8 s r := rfl
@[simp] theorem readR16_setJZ (j z : Bool) (r : Reg16) : readR16 (setJZ s j z) r = readR16 s r := by cases r <;> rfl
@[simp] theorem memRead8_setJZ (j z : Bool) (a : Word) : memRead8 (setJZ s j z) a = memRead8 s a := rfl

@[simp] theorem setJC_bank0 (j c : Bool) : (setJC s j c).bank0 = s.bank0 := rfl
@[simp] theorem setJC_bank1 (j c : Bool) : (setJC s j c).bank1 = s.bank1 := rfl
@[simp] theorem setJC_sp (j c : Bool) : (setJC s j c).sp = s.sp := rfl
@[simp] theorem setJC_pc (j c : Bool) : (setJC s j c).pc = s.pc := rfl
@[simp] theorem setJC_psw (j c : Bool) : (setJC s j c).psw = { s.psw with jf := j, cf := c } := rfl
@[simp] theorem setJC_imf (j c : Bool) : (setJC s j c).imf = s.imf := rfl
@[simp] theorem setJC_data (j c : Bool) : (setJC s j c).data = s.data := rfl
@[simp] theorem setJC_code (j c : Bool) : (setJC s j c).code = s.code := rfl
@[simp] theorem setJC_event (j c : Bool) : (setJC s j c).event = s.event := rfl
@[simp] theorem setJC_draws (j c : Bool) : (setJC s j c).draws = s.draws := rfl
@[simp] theorem setJC_bank (j c : Bool) : (setJC s j c).bank = s.bank := rfl
@[simp] theorem setJC_pcPlus (j c : Bool) (k : Nat) : (setJC s j c).pcPlus k = s.pcPlus k := rfl
@[simp] theorem readR8_setJC (j c : Bool) (r : Reg8) : readR8 (setJC s j c) r = readR8 s r := rfl
@[simp] theorem readR16_setJC (j c : Bool) (r : Reg16) : readR16 (setJC s j c) r = readR16 s r := by cases r <;> rfl
@[simp] theorem memRead8_setJC (j c : Bool) (a : Word) : memRead8 (setJC s j c) a = memRead8 s a := rfl

@[simp] theorem setJZC_bank0 (j z c : Bool) : (setJZC s j z c).bank0 = s.bank0 := rfl
@[simp] theorem setJZC_bank1 (j z c : Bool) : (setJZC s j z c).bank1 = s.bank1 := rfl
@[simp] theorem setJZC_sp (j z c : Bool) : (setJZC s j z c).sp = s.sp := rfl
@[simp] theorem setJZC_pc (j z c : Bool) : (setJZC s j z c).pc = s.pc := rfl
@[simp] theorem setJZC_psw (j z c : Bool) : (setJZC s j z c).psw = { s.psw with jf := j, zf := z, cf := c } := rfl
@[simp] theorem setJZC_imf (j z c : Bool) : (setJZC s j z c).imf = s.imf := rfl
@[simp] theorem setJZC_data (j z c : Bool) : (setJZC s j z c).data = s.data := rfl
@[simp] theorem setJZC_code (j z c : Bool) : (setJZC s j z c).code = s.code := rfl
@[simp] theorem setJZC_event (j z c : Bool) : (setJZC s j z c).event = s.event := rfl
@[simp] theorem setJZC_draws (j z c : Bool) : (setJZC s j z c).draws = s.draws := rfl
@[simp] theorem setJZC_bank (j z c : Bool) : (setJZC s j z c).bank = s.bank := rfl
@[simp] theorem setJZC_pcPlus (j z c : Bool) (k : Nat) : (setJZC s j z c).pcPlus k = s.pcPlus k := rfl
@[simp] theorem readR8_setJZC (j z c : Bool) (r : Reg8) : readR8 (setJZC s j z c) r = readR8 s r := rfl
@[simp] theorem readR16_setJZC (j z c : Bool) (r : Reg16) : readR16 (setJZC s j z c) r = readR16 s r := by cases r <;> rfl
@[simp] theorem memRead8_setJZC (j z c : Bool) (a : Word) : memRead8 (setJZC s j z c) a = memRead8 s a := rfl

@[simp] theorem setLoadFlags_bank0 (v : Byte) : (setLoadFlags s v).bank0 = s.bank0 := rfl
@[simp] theorem setLoadFlags_bank1 (v : Byte) : (setLoadFlags s v).bank1 = s.bank1 := rfl
@[simp] theorem setLoadFlags_sp (v : Byte) : (setLoadFlags s v).sp = s.sp := rfl
@[simp] theorem setLoadFlags_pc (v : Byte) : (setLoadFlags s v).pc = s.pc := rfl
@[simp] theorem setLoadFlags_psw (v : Byte) : (setLoadFlags s v).psw = { s.psw with jf := true, zf := decide (v = 0) } := rfl
@[simp] theorem setLoadFlags_imf (v : Byte) : (setLoadFlags s v).imf = s.imf := rfl
@[simp] theorem setLoadFlags_data (v : Byte) : (setLoadFlags s v).data = s.data := rfl
@[simp] theorem setLoadFlags_code (v : Byte) : (setLoadFlags s v).code = s.code := rfl
@[simp] theorem setLoadFlags_event (v : Byte) : (setLoadFlags s v).event = s.event := rfl
@[simp] theorem setLoadFlags_draws (v : Byte) : (setLoadFlags s v).draws = s.draws := rfl
@[simp] theorem setLoadFlags_bank (v : Byte) : (setLoadFlags s v).bank = s.bank := rfl
@[simp] theorem setLoadFlags_pcPlus (v : Byte) (k : Nat) : (setLoadFlags s v).pcPlus k = s.pcPlus k := rfl
@[simp] theorem readR8_setLoadFlags (v : Byte) (r : Reg8) : readR8 (setLoadFlags s v) r = readR8 s r := rfl
@[simp] theorem readR16_setLoadFlags (v : Byte) (r : Reg16) : readR16 (setLoadFlags s v) r = readR16 s r := by cases r <;> rfl
@[simp] theorem memRead8_setLoadFlags (v : Byte) (a : Word) : memRead8 (setLoadFlags s v) a = memRead8 s a := rfl

/-! `drawn` -/

@[simp] theorem drawn_bank0 : (drawn s).bank0 = s.bank0 := rfl
@[simp] theorem drawn_bank1 : (drawn s).bank1 = s.bank1 := rfl
@[simp] theorem drawn_sp : (drawn s).sp = s.sp := rfl
@[simp] theorem drawn_pc : (drawn s).pc = s.pc := rfl
@[simp] theorem drawn_psw : (drawn s).psw = s.psw := rfl
@[simp] theorem drawn_imf : (drawn s).imf = s.imf := rfl
@[simp] theorem drawn_data : (drawn s).data = s.data := rfl
@[simp] theorem drawn_code : (drawn s).code = s.code := rfl
@[simp] theorem drawn_event : (drawn s).event = s.event := rfl
@[simp] theorem drawn_draws : (drawn s).draws = s.draws + 1 := rfl
@[simp] theorem drawn_bank : (drawn s).bank = s.bank := rfl
@[simp] theorem drawn_pcPlus (k : Nat) : (drawn s).pcPlus k = s.pcPlus k := rfl
@[simp] theorem readR8_drawn (r : Reg8) : readR8 (drawn s) r = readR8 s r := rfl
@[simp] theorem readR16_drawn (r : Reg16) : readR16 (drawn s) r = readR16 s r := by cases r <;> rfl
@[simp] theorem memRead8_drawn (a : Word) : memRead8 (drawn s) a = memRead8 s a := rfl

/-! Banks and registers -/

@[simp] theorem State.withBank_sp (v : Bank) : (s.withBank v).sp = s.sp := by
  unfold State.withBank; split <;> rfl
@[simp] theorem State.withBank_pc (v : Bank) : (s.withBank v).pc = s.pc := by
  unfold State.withBank; split <;> rfl
@[simp] theorem State.withBank_psw (v : Bank) : (s.withBank v).psw = s.psw := by
  unfold State.withBank; split <;> rfl
@[simp] theorem State.withBank_imf (v : Bank) : (s.withBank v).imf = s.imf := by
  unfold State.withBank; split <;> rfl
@[simp] theorem State.withBank_data (v : Bank) : (s.withBank v).data = s.data := by
  unfold State.withBank; split <;> rfl
@[simp] theorem State.withBank_code (v : Bank) : (s.withBank v).code = s.code := by
  unfold State.withBank; split <;> rfl
@[simp] theorem State.withBank_event (v : Bank) : (s.withBank v).event = s.event := by
  unfold State.withBank; split <;> rfl
@[simp] theorem State.withBank_draws (v : Bank) : (s.withBank v).draws = s.draws := by
  unfold State.withBank; split <;> rfl

@[simp] theorem writeR8_sp (r : Reg8) (v : Byte) : (writeR8 s r v).sp = s.sp := State.withBank_sp s _
@[simp] theorem writeR8_pc (r : Reg8) (v : Byte) : (writeR8 s r v).pc = s.pc := State.withBank_pc s _
@[simp] theorem writeR8_psw (r : Reg8) (v : Byte) : (writeR8 s r v).psw = s.psw := State.withBank_psw s _
@[simp] theorem writeR8_imf (r : Reg8) (v : Byte) : (writeR8 s r v).imf = s.imf := State.withBank_imf s _
@[simp] theorem writeR8_data (r : Reg8) (v : Byte) : (writeR8 s r v).data = s.data := State.withBank_data s _
@[simp] theorem writeR8_code (r : Reg8) (v : Byte) : (writeR8 s r v).code = s.code := State.withBank_code s _
@[simp] theorem writeR8_event (r : Reg8) (v : Byte) : (writeR8 s r v).event = s.event := State.withBank_event s _
@[simp] theorem writeR8_draws (r : Reg8) (v : Byte) : (writeR8 s r v).draws = s.draws := State.withBank_draws s _

@[simp] theorem State.withBank_bank (v : Bank) : (s.withBank v).bank = v := by
  unfold State.withBank State.bank; split <;> simp_all

@[simp] theorem State.withBank_pcPlus (v : Bank) (k : Nat) : (s.withBank v).pcPlus k = s.pcPlus k := by
  unfold State.withBank; split <;> rfl

@[simp] theorem writeR8_pcPlus (r : Reg8) (v : Byte) (k : Nat) : (writeR8 s r v).pcPlus k = s.pcPlus k :=
  State.withBank_pcPlus s _ k

/-- A bank write leaves the bank that RBS does not select (R25). -/
theorem State.withBank_other (v : Bank) :
    (s.psw.rbs = true → (s.withBank v).bank0 = s.bank0) ∧ (s.psw.rbs = false → (s.withBank v).bank1 = s.bank1) := by
  unfold State.withBank; constructor <;> intro h <;> simp [h]

@[simp] theorem memRead8_withBank (v : Bank) (a : Word) : memRead8 (s.withBank v) a = memRead8 s a := by
  unfold memRead8; simp

@[simp] theorem memRead8_writeR8 (r : Reg8) (v : Byte) (a : Word) : memRead8 (writeR8 s r v) a = memRead8 s a :=
  memRead8_withBank s _ a

@[simp] theorem readR8_withPsw (p : Psw) (h : p.rbs = s.psw.rbs) (r : Reg8) :
    readR8 (s.withPsw p) r = readR8 s r := by
  unfold readR8 State.bank; simp [h]

@[simp] theorem readR16_withPsw (p : Psw) (h : p.rbs = s.psw.rbs) (r : Reg16) :
    readR16 (s.withPsw p) r = readR16 s r := by
  unfold readR16 State.bank; cases r <;> simp [h]

theorem bankGet8_bankSet8 (k : Bank) (r q : Reg8) (v : Byte) :
    bankGet8 (bankSet8 k r v) q = if q = r then v else bankGet8 k q := by
  cases r <;> cases q <;> rfl

/-- Writing an 8-bit register (R21, R22): it holds the value, every other 8-bit register is as before. -/
theorem readR8_writeR8 (r q : Reg8) (v : Byte) :
    readR8 (writeR8 s r v) q = if q = r then v else readR8 s q := by
  unfold writeR8 readR8; simp [bankGet8_bankSet8]

@[simp] theorem readR16_ix_writeR8 (r : Reg8) (v : Byte) : readR16 (writeR8 s r v) .ix = readR16 s .ix := by
  unfold writeR8 readR16; cases r <;> simp [bankSet8]

@[simp] theorem readR16_iy_writeR8 (r : Reg8) (v : Byte) : readR16 (writeR8 s r v) .iy = readR16 s .iy := by
  unfold writeR8 readR16; cases r <;> simp [bankSet8]

@[simp] theorem hiByte_wordOf (h l : Byte) : hiByte (wordOf h l) = h := by
  show (h ++ l).extractLsb' 8 8 = h
  ext i hi
  rw [BitVec.getElem_extractLsb', BitVec.getLsbD_append]
  simp [BitVec.getLsbD_eq_getElem hi]

@[simp] theorem loByte_wordOf (h l : Byte) : loByte (wordOf h l) = l := by
  show (h ++ l).extractLsb' 0 8 = l
  ext i hi
  rw [BitVec.getElem_extractLsb', BitVec.getLsbD_append]
  simp [hi]

@[simp] theorem wordOf_hiByte_loByte (v : Word) : wordOf (hiByte v) (loByte v) = v := by
  show v.extractLsb' 8 8 ++ v.extractLsb' 0 8 = v
  apply BitVec.eq_of_getLsbD_eq
  intro i hi
  rw [BitVec.getLsbD_append]
  by_cases h : i < 8
  · simp [h]
  · simp [h, show i - 8 < 8 by omega, show 8 + (i - 8) = i by omega]

/-- A word is its two bytes. -/
theorem wordOf_inj (a b c d : Byte) : wordOf a b = wordOf c d ↔ a = c ∧ b = d := by
  constructor
  · intro h
    exact ⟨by rw [← hiByte_wordOf a b, h, hiByte_wordOf], by rw [← loByte_wordOf a b, h, loByte_wordOf]⟩
  · rintro ⟨rfl, rfl⟩; rfl

@[simp] theorem writeR16_pc (r : Reg16) (v : Word) : (writeR16 s r v).pc = s.pc := by
  cases r <;> simp [writeR16]

@[simp] theorem writeR16_psw (r : Reg16) (v : Word) : (writeR16 s r v).psw = s.psw := by
  cases r <;> simp [writeR16]

@[simp] theorem writeR16_imf (r : Reg16) (v : Word) : (writeR16 s r v).imf = s.imf := by
  cases r <;> simp [writeR16]

@[simp] theorem writeR16_data (r : Reg16) (v : Word) : (writeR16 s r v).data = s.data := by
  cases r <;> simp [writeR16]

@[simp] theorem writeR16_code (r : Reg16) (v : Word) : (writeR16 s r v).code = s.code := by
  cases r <;> simp [writeR16]

@[simp] theorem writeR16_event (r : Reg16) (v : Word) : (writeR16 s r v).event = s.event := by
  cases r <;> simp [writeR16]

@[simp] theorem writeR16_draws (r : Reg16) (v : Word) : (writeR16 s r v).draws = s.draws := by
  cases r <;> simp [writeR16]

@[simp] theorem writeR16_pcPlus (r : Reg16) (v : Word) (k : Nat) : (writeR16 s r v).pcPlus k = s.pcPlus k := by
  cases r <;> simp [writeR16]

@[simp] theorem memRead8_writeR16 (r : Reg16) (v a : Word) : memRead8 (writeR16 s r v) a = memRead8 s a := by
  cases r <;> simp [writeR16]

/-- A 16-bit register write leaves the bank that RBS does not select (R25). -/
theorem writeR16_other (r : Reg16) (v : Word) :
    (s.psw.rbs = true → (writeR16 s r v).bank0 = s.bank0) ∧
      (s.psw.rbs = false → (writeR16 s r v).bank1 = s.bank1) := by
  cases r <;> first | exact State.withBank_other s _ | exact ⟨fun _ => rfl, fun _ => rfl⟩

end Sys2Proof.Machine
end

