-- ==== Sys2Proof/Laws/Ops.lean ====
section
/-!
SUPPORT. For each shared operation, one lemma that says what it does: register writes, byte and word stores,
the stack, PSW as a byte, taking an exception and returning from one, the host's events, one step.
-/

namespace Sys2Proof.Machine

open Sys2Proof

/-! The canonical form -/

theorem State.wf_iff (s : State) :
    s.wf = true ↔ memWf s.data = true ∧ memWf s.code = true ∧
      bitOf (memGet s.data Config.imfAddr.toNat) 0 = false := by
  simp [State.wf, and_assoc]

/-- A state with the same two areas is canonical too. -/
theorem State.wf_of_areas (s t : State) (h : s.wf = true) (hd : t.data = s.data) (hc : t.code = s.code) :
    t.wf = true := by
  rw [State.wf_iff] at h ⊢; rwa [hd, hc]

/-! Registers -/

/-- What writing an 8-bit register does (R21, R22, R25). -/
theorem writesR8_writeR8 (s : State) (r : Reg8) (v : Byte) : writesR8 s (writeR8 s r v) r v :=
  ⟨fun q => readR8_writeR8 s r q v, readR16_ix_writeR8 s r v, readR16_iy_writeR8 s r v, writeR8_sp s r v,
    State.withBank_other s _⟩

/-- Writing a 16-bit register (R21, R23): it holds the value under both of its codes, every other one is as
before. -/
theorem readR16_writeR16 (s : State) (r q : Reg16) (v : Word) :
    readR16 (writeR16 s r v) q = if reg16Main q = reg16Main r then v else readR16 s q := by
  cases r <;> cases q <;> simp [writeR16, readR16, reg16Main]

/-- What writing a 16-bit register does (R21, R23, R25). -/
theorem writesR16_writeR16 (s : State) (r : Reg16) (v : Word) : writesR16 s (writeR16 s r v) r v :=
  ⟨fun q => readR16_writeR16 s r q v, writeR16_other s r v⟩

/-! Stores -/

theorem memWrite8_eq (s : State) (a : Word) (v : Byte) :
    memWrite8 s a v =
      (s.withData (dataPut s.data a v)).withImf (if a = Config.imfAddr then bitOf v 0 else s.imf) := rfl

section memWrite8
variable (s : State) (a : Word) (v : Byte)
@[simp] theorem memWrite8_bank0 : (memWrite8 s a v).bank0 = s.bank0 := rfl
@[simp] theorem memWrite8_bank1 : (memWrite8 s a v).bank1 = s.bank1 := rfl
@[simp] theorem memWrite8_sp : (memWrite8 s a v).sp = s.sp := rfl
@[simp] theorem memWrite8_pc : (memWrite8 s a v).pc = s.pc := rfl
@[simp] theorem memWrite8_psw : (memWrite8 s a v).psw = s.psw := rfl
@[simp] theorem memWrite8_code : (memWrite8 s a v).code = s.code := rfl
@[simp] theorem memWrite8_event : (memWrite8 s a v).event = s.event := rfl
@[simp] theorem memWrite8_draws : (memWrite8 s a v).draws = s.draws := rfl
@[simp] theorem memWrite8_imf :
    (memWrite8 s a v).imf = if a = Config.imfAddr then bitOf v 0 else s.imf := rfl
@[simp] theorem memWrite8_bank : (memWrite8 s a v).bank = s.bank := rfl
@[simp] theorem memWrite8_pcPlus (k : Nat) : (memWrite8 s a v).pcPlus k = s.pcPlus k := rfl
@[simp] theorem readR8_memWrite8 (r : Reg8) : readR8 (memWrite8 s a v) r = readR8 s r := rfl
@[simp] theorem readR16_memWrite8 (r : Reg16) : readR16 (memWrite8 s a v) r = readR16 s r := by cases r <;> rfl
@[simp] theorem codeRead16_memWrite8 (b : Word) : codeRead16 (memWrite8 s a v) b = codeRead16 s b := rfl
end memWrite8

theorem setBit_setBit_zero (v : Byte) : setBit (setBit v 0 false) 0 (bitOf v 0) = v := by
  revert v; decide

/-- Read after a byte store (R52, R54, R57): the byte at the address is the stored one, IMF included at
0x003A; every other byte reads as before. -/
theorem memRead8_memWrite8 (s : State) (h : memWf s.data = true) (a b : Word) (v : Byte) :
    memRead8 (memWrite8 s a v) b = if b = a then v else memRead8 s b := by
  unfold memRead8
  rw [memWrite8_imf]
  simp only [memWrite8_eq, State.withImf_data, State.withData_data, memGet_dataPut _ h]
  by_cases hb : b = a
  · subst hb
    by_cases hi : b = Config.imfAddr
    · subst hi; simp [setBit_setBit_zero]
    · simp [hi]
  · by_cases hi : b = Config.imfAddr
    · subst hi; simp [hb, Ne.symm hb]
    · simp [hb, hi]

theorem memWf_memWrite8 (s : State) (h : memWf s.data = true) (a : Word) (v : Byte) :
    memWf (memWrite8 s a v).data = true := memWf_dataPut _ h a v

/-- A byte store keeps the canonical form. -/
theorem wf_memWrite8 (s : State) (h : s.wf = true) (a : Word) (v : Byte) : (memWrite8 s a v).wf = true := by
  rw [State.wf_iff] at h ⊢
  exact ⟨memWf_dataPut _ h.1 a v, h.2.1, imfCell_dataPut _ h.1 a v h.2.2⟩

/-- What a byte store does (R54, R57). -/
theorem storesByte_memWrite8 (s : State) (h : s.wf = true) (a : Word) (v : Byte) :
    storesByte s (memWrite8 s a v) a v :=
  ⟨fun b => memRead8_memWrite8 s ((State.wf_iff s).1 h).1 a b v, rfl⟩

section memWrite16
variable (s : State) (a v : Word)
@[simp] theorem memWrite16_bank0 : (memWrite16 s a v).bank0 = s.bank0 := rfl
@[simp] theorem memWrite16_bank1 : (memWrite16 s a v).bank1 = s.bank1 := rfl
@[simp] theorem memWrite16_sp : (memWrite16 s a v).sp = s.sp := rfl
@[simp] theorem memWrite16_pc : (memWrite16 s a v).pc = s.pc := rfl
@[simp] theorem memWrite16_psw : (memWrite16 s a v).psw = s.psw := rfl
@[simp] theorem memWrite16_code : (memWrite16 s a v).code = s.code := rfl
@[simp] theorem memWrite16_event : (memWrite16 s a v).event = s.event := rfl
@[simp] theorem memWrite16_draws : (memWrite16 s a v).draws = s.draws := rfl
@[simp] theorem memWrite16_bank : (memWrite16 s a v).bank = s.bank := rfl
@[simp] theorem memWrite16_pcPlus (k : Nat) : (memWrite16 s a v).pcPlus k = s.pcPlus k := rfl
@[simp] theorem readR8_memWrite16 (r : Reg8) : readR8 (memWrite16 s a v) r = readR8 s r := rfl
@[simp] theorem readR16_memWrite16 (r : Reg16) : readR16 (memWrite16 s a v) r = readR16 s r := by
  cases r <;> rfl
end memWrite16

/-- A word store keeps the canonical form. -/
theorem wf_memWrite16 (s : State) (h : s.wf = true) (a v : Word) : (memWrite16 s a v).wf = true :=
  wf_memWrite8 _ (wf_memWrite8 s h a _) _ _

/-- What a word store does (R54). -/
theorem storesWord_memWrite16 (s : State) (h : s.wf = true) (a v : Word) :
    storesWord s (memWrite16 s a v) a v := by
  have hd := ((State.wf_iff s).1 h).1
  refine ⟨fun b => ?_, rfl⟩
  unfold memWrite16
  rw [memRead8_memWrite8 _ (memWf_memWrite8 s hd a _), memRead8_memWrite8 s hd]

/-! Memory operands -/

section srcBegin
variable (m : Src) (s : State)
@[simp] theorem srcBegin_bank0 : (srcBegin m s).bank0 = s.bank0 := by cases m <;> rfl
@[simp] theorem srcBegin_bank1 : (srcBegin m s).bank1 = s.bank1 := by cases m <;> rfl
@[simp] theorem srcBegin_pc : (srcBegin m s).pc = s.pc := by cases m <;> rfl
@[simp] theorem srcBegin_psw : (srcBegin m s).psw = s.psw := by cases m <;> rfl
@[simp] theorem srcBegin_imf : (srcBegin m s).imf = s.imf := by cases m <;> rfl
@[simp] theorem srcBegin_data : (srcBegin m s).data = s.data := by cases m <;> rfl
@[simp] theorem srcBegin_code : (srcBegin m s).code = s.code := by cases m <;> rfl
@[simp] theorem srcBegin_event : (srcBegin m s).event = s.event := by cases m <;> rfl
@[simp] theorem srcBegin_draws : (srcBegin m s).draws = s.draws := by cases m <;> rfl
@[simp] theorem srcBegin_bank : (srcBegin m s).bank = s.bank := by cases m <;> rfl
@[simp] theorem srcBegin_pcPlus (k : Nat) : (srcBegin m s).pcPlus k = s.pcPlus k := by cases m <;> rfl
@[simp] theorem memRead8_srcBegin (a : Word) : memRead8 (srcBegin m s) a = memRead8 s a := by cases m <;> rfl
@[simp] theorem readR8_srcBegin (r : Reg8) : readR8 (srcBegin m s) r = readR8 s r := by cases m <;> rfl
/-- `(+SP)` increments SP by 1, every other mode leaves it (R63). -/
theorem srcBegin_sp : (srcBegin m s).sp = if m = .incSP then s.sp + 1 else s.sp := by cases m <;> simp [srcBegin]
end srcBegin

@[simp] theorem memRead16_srcBegin (m : Src) (s : State) (a : Word) :
    memRead16 (srcBegin m s) a = memRead16 s a := by
  unfold memRead16; simp

theorem wf_srcBegin (m : Src) (s : State) (h : s.wf = true) : (srcBegin m s).wf = true :=
  State.wf_of_areas s _ h (srcBegin_data m s) (srcBegin_code m s)

section dstEnd
variable (m : Dst) (s : State)
@[simp] theorem dstEnd_bank0 : (dstEnd m s).bank0 = s.bank0 := by cases m <;> rfl
@[simp] theorem dstEnd_bank1 : (dstEnd m s).bank1 = s.bank1 := by cases m <;> rfl
@[simp] theorem dstEnd_pc : (dstEnd m s).pc = s.pc := by cases m <;> rfl
@[simp] theorem dstEnd_psw : (dstEnd m s).psw = s.psw := by cases m <;> rfl
@[simp] theorem dstEnd_imf : (dstEnd m s).imf = s.imf := by cases m <;> rfl
@[simp] theorem dstEnd_data : (dstEnd m s).data = s.data := by cases m <;> rfl
@[simp] theorem dstEnd_code : (dstEnd m s).code = s.code := by cases m <;> rfl
@[simp] theorem dstEnd_event : (dstEnd m s).event = s.event := by cases m <;> rfl
@[simp] theorem dstEnd_draws : (dstEnd m s).draws = s.draws := by cases m <;> rfl
@[simp] theorem dstEnd_pcPlus (k : Nat) : (dstEnd m s).pcPlus k = s.pcPlus k := by cases m <;> rfl
@[simp] theorem memRead8_dstEnd (a : Word) : memRead8 (dstEnd m s) a = memRead8 s a := by cases m <;> rfl
/-- `(SP-)` decrements SP by 1, every other mode leaves it (R64). -/
theorem dstEnd_sp : (dstEnd m s).sp = if m = .spDec then s.sp - 1 else s.sp := by cases m <;> simp [dstEnd]
end dstEnd

/-! The words of the statements carry over to a state that differs elsewhere only. -/

/-- `writesR8` is about the banks, SP and RBS only. -/
theorem writesR8_of_eq (s t u : State) (r : Reg8) (v : Byte) (h : writesR8 s t r v) (h0 : u.bank0 = t.bank0)
    (h1 : u.bank1 = t.bank1) (h2 : u.sp = t.sp) (h3 : u.psw.rbs = t.psw.rbs) : writesR8 s u r v := by
  obtain ⟨a, b, c, d, e⟩ := h
  have hb : u.bank = t.bank := by unfold State.bank; rw [h0, h1, h3]
  refine ⟨fun q => ?_, ?_, ?_, by rw [h2, d], fun k => by rw [h0, e.1 k], fun k => by rw [h1, e.2 k]⟩
  · rw [← a q]; unfold readR8; rw [hb]
  · rw [← b]; unfold readR16; simp [hb]
  · rw [← c]; unfold readR16; simp [hb]

/-- `writesR16` is about the banks, SP and RBS only. -/
theorem writesR16_of_eq (s t u : State) (r : Reg16) (v : Word) (h : writesR16 s t r v) (h0 : u.bank0 = t.bank0)
    (h1 : u.bank1 = t.bank1) (h2 : u.sp = t.sp) (h3 : u.psw.rbs = t.psw.rbs) : writesR16 s u r v := by
  obtain ⟨a, e⟩ := h
  have hb : u.bank = t.bank := by unfold State.bank; rw [h0, h1, h3]
  refine ⟨fun q => ?_, fun k => by rw [h0, e.1 k], fun k => by rw [h1, e.2 k]⟩
  rw [← a q]; unfold readR16; simp [hb, h2]

/-- `storesByte` is about the data area and IMF only. -/
theorem storesByte_of_eq (s t u : State) (a : Word) (v : Byte) (h : storesByte s t a v) (h1 : u.data = t.data)
    (h2 : u.imf = t.imf) : storesByte s u a v := by
  obtain ⟨p, q⟩ := h
  refine ⟨fun b => ?_, by rw [h2, q]⟩
  rw [← p b]; unfold memRead8; rw [h1, h2]

/-- `storesWord` is about the data area and IMF only. -/
theorem storesWord_of_eq (s t u : State) (a v : Word) (h : storesWord s t a v) (h1 : u.data = t.data)
    (h2 : u.imf = t.imf) : storesWord s u a v := by
  obtain ⟨p, q⟩ := h
  refine ⟨fun b => ?_, by rw [h2, q]⟩
  rw [← p b]; unfold memRead8; rw [h1, h2]

/-- A byte store and an 8-bit register write do not see each other. -/
theorem memWrite8_writeR8 (s : State) (r : Reg8) (v : Byte) (a : Word) (w : Byte) :
    memWrite8 (writeR8 s r v) a w = writeR8 (memWrite8 s a w) r v := by
  unfold writeR8 State.withBank
  simp only [memWrite8_bank, memWrite8_psw]
  split <;> simp_all <;> rfl

/-! Flags -/

section alu
variable (op : AluOp) (o : AluOut 8) (p : AluOut 16) (s : State)
@[simp] theorem setAluFlags8_bank0 : (setAluFlags8 op o s).bank0 = s.bank0 := rfl
@[simp] theorem setAluFlags8_bank1 : (setAluFlags8 op o s).bank1 = s.bank1 := rfl
@[simp] theorem setAluFlags8_sp : (setAluFlags8 op o s).sp = s.sp := rfl
@[simp] theorem setAluFlags8_pc : (setAluFlags8 op o s).pc = s.pc := rfl
@[simp] theorem setAluFlags8_imf : (setAluFlags8 op o s).imf = s.imf := rfl
@[simp] theorem setAluFlags8_data : (setAluFlags8 op o s).data = s.data := rfl
@[simp] theorem setAluFlags8_code : (setAluFlags8 op o s).code = s.code := rfl
@[simp] theorem setAluFlags8_event : (setAluFlags8 op o s).event = s.event := rfl
@[simp] theorem setAluFlags8_draws : (setAluFlags8 op o s).draws = s.draws := rfl
@[simp] theorem setAluFlags8_pcPlus (k : Nat) : (setAluFlags8 op o s).pcPlus k = s.pcPlus k := rfl
@[simp] theorem memRead8_setAluFlags8 (a : Word) : memRead8 (setAluFlags8 op o s) a = memRead8 s a := rfl
@[simp] theorem setAluFlags16_pcPlus (k : Nat) : (setAluFlags16 op p s).pcPlus k = s.pcPlus k := by
  unfold setAluFlags16; split <;> rfl
@[simp] theorem memRead8_setAluFlags16 (a : Word) : memRead8 (setAluFlags16 op p s) a = memRead8 s a := by
  unfold setAluFlags16; split <;> rfl
/-- No two-operand operation changes RBS (R37). -/
@[simp] theorem aluPsw_rbs {n : Nat} (q : AluOut n) (half : Bool) (w : Psw) :
    (aluPsw op q half w).rbs = w.rbs := by unfold aluPsw; split <;> rfl
@[simp] theorem setAluFlags16_bank0 : (setAluFlags16 op p s).bank0 = s.bank0 := by
  unfold setAluFlags16; split <;> rfl
@[simp] theorem setAluFlags16_bank1 : (setAluFlags16 op p s).bank1 = s.bank1 := by
  unfold setAluFlags16; split <;> rfl
@[simp] theorem setAluFlags16_sp : (setAluFlags16 op p s).sp = s.sp := by unfold setAluFlags16; split <;> rfl
@[simp] theorem setAluFlags16_pc : (setAluFlags16 op p s).pc = s.pc := by unfold setAluFlags16; split <;> rfl
@[simp] theorem setAluFlags16_imf : (setAluFlags16 op p s).imf = s.imf := by unfold setAluFlags16; split <;> rfl
@[simp] theorem setAluFlags16_data : (setAluFlags16 op p s).data = s.data := by
  unfold setAluFlags16; split <;> rfl
@[simp] theorem setAluFlags16_code : (setAluFlags16 op p s).code = s.code := by
  unfold setAluFlags16; split <;> rfl
@[simp] theorem setAluFlags16_event : (setAluFlags16 op p s).event = s.event := by
  unfold setAluFlags16; split <;> rfl
/-- The flags of a 16-bit operation: those of `aluPsw` for some HF, which is free when arithmetic (R34). -/
theorem setAluFlags16_psw : ∃ half, (p.arith = none → half = s.psw.hf) ∧
    (setAluFlags16 op p s).psw = aluPsw op p half s.psw := by
  unfold setAluFlags16
  split
  · exact ⟨s.psw.hf, fun _ => rfl, rfl⟩
  · exact ⟨freeBit s, fun h => by simp_all, rfl⟩
end alu

/-! The stack -/

/-- What a push does (R144, R320). -/
theorem push16_spec (s : State) (h : s.wf = true) (v : Word) :
    (push16 s v).sp = s.sp - 2 ∧ (push16 s v).wf = true ∧
      ∀ b, memRead8 (push16 s v) b =
        if b = s.sp - 1 then loByte v else if b = s.sp then hiByte v else memRead8 s b := by
  have hd := ((State.wf_iff s).1 h).1
  refine ⟨rfl, State.wf_of_areas _ _ (wf_memWrite8 _ (wf_memWrite8 s h s.sp (hiByte v)) (s.sp - 1) (loByte v))
    rfl rfl, fun b => ?_⟩
  show memRead8 (memWrite8 (memWrite8 s s.sp (hiByte v)) (s.sp - 1) (loByte v)) b = _
  rw [memRead8_memWrite8 _ (memWf_memWrite8 s hd _ _), memRead8_memWrite8 s hd]

section push16
variable (s : State) (v : Word)
@[simp] theorem push16_bank0 : (push16 s v).bank0 = s.bank0 := rfl
@[simp] theorem push16_bank1 : (push16 s v).bank1 = s.bank1 := rfl
@[simp] theorem push16_sp : (push16 s v).sp = s.sp - 2 := rfl
@[simp] theorem push16_pc : (push16 s v).pc = s.pc := rfl
@[simp] theorem push16_psw : (push16 s v).psw = s.psw := rfl
@[simp] theorem push16_code : (push16 s v).code = s.code := rfl
@[simp] theorem push16_event : (push16 s v).event = s.event := rfl
@[simp] theorem push16_draws : (push16 s v).draws = s.draws := rfl
@[simp] theorem push16_imf : (push16 s v).imf =
    if s.sp - 1 = Config.imfAddr then bitOf (loByte v) 0
    else if s.sp = Config.imfAddr then bitOf (hiByte v) 0 else s.imf := rfl
end push16

/-! PSW as a byte -/

/-- PSW survives a trip through a byte, whatever bit 0 (R30). -/
@[simp] theorem pswOfByte_pswByte (p : Psw) (b : Bool) : pswOfByte (pswByte p b) = p := by
  obtain ⟨j, z, c, h, s, v, r⟩ := p
  revert j z c h s v r b; decide

/-- Bit 0 of the byte of PSW. -/
@[simp] theorem bitOf_pswByte (p : Psw) (b : Bool) : bitOf (pswByte p b) 0 = b := by
  obtain ⟨j, z, c, h, s, v, r⟩ := p
  revert j z c h s v r b; decide

/-! Taking an exception and returning from one -/

/-- The state with the three bytes of an entry on the stack, before SP, IMF and PC change. -/
def entryStack (s : State) (ret : Word) : State :=
  memWrite8 (memWrite8 (memWrite8 s s.sp (pswByte s.psw s.imf)) (s.sp - 1) (hiByte ret)) (s.sp - 2) (loByte ret)

theorem enterException_eq (s : State) (ret vector : Word) :
    enterException s ret vector =
      (((entryStack s ret).withSp (s.sp - 3)).withImf false).withPc (codeRead16 s vector) := rfl

@[simp] theorem enterException_data (s : State) (ret vector : Word) :
    (enterException s ret vector).data = (entryStack s ret).data := by simp [enterException_eq]

section enterException
variable (s : State) (ret vector : Word)
@[simp] theorem enterException_bank0 : (enterException s ret vector).bank0 = s.bank0 := by
  simp [enterException_eq, entryStack]
@[simp] theorem enterException_bank1 : (enterException s ret vector).bank1 = s.bank1 := by
  simp [enterException_eq, entryStack]
@[simp] theorem enterException_sp : (enterException s ret vector).sp = s.sp - 3 := by
  simp [enterException_eq, entryStack]
@[simp] theorem enterException_pc : (enterException s ret vector).pc = codeRead16 s vector := by
  simp [enterException_eq, entryStack]
@[simp] theorem enterException_psw : (enterException s ret vector).psw = s.psw := by
  simp [enterException_eq, entryStack]
@[simp] theorem enterException_imf : (enterException s ret vector).imf = false := by
  simp [enterException_eq, entryStack]
@[simp] theorem enterException_code : (enterException s ret vector).code = s.code := by
  simp [enterException_eq, entryStack]
@[simp] theorem enterException_event : (enterException s ret vector).event = s.event := by
  simp [enterException_eq, entryStack]
@[simp] theorem enterException_draws : (enterException s ret vector).draws = s.draws := by
  simp [enterException_eq, entryStack]
end enterException

/-- Away from 0x003A a read does not see IMF. -/
theorem memRead8_of_data (s t : State) (b : Word) (hb : b ≠ Config.imfAddr) (h : t.data = s.data) :
    memRead8 t b = memRead8 s b := by
  unfold memRead8; rw [if_neg hb, if_neg hb, h]

/-- An entry keeps the canonical form. -/
theorem wf_enterException (s : State) (h : s.wf = true) (ret vector : Word) :
    (enterException s ret vector).wf = true :=
  State.wf_of_areas (entryStack s ret) _
    (wf_memWrite8 _ (wf_memWrite8 _ (wf_memWrite8 s h _ _) _ _) _ _) (enterException_data s ret vector)
    (by simp [enterException_eq])

/-- What an entry leaves in the data area (R352): the three bytes on the stack, every other byte as before. At
0x003A a read gives the stored bits 7..1 with the cleared IMF, so that address is left out. -/
theorem memRead8_enterException (s : State) (h : s.wf = true) (ret vector b : Word) (hb : b ≠ Config.imfAddr) :
    memRead8 (enterException s ret vector) b =
      if b = s.sp - 2 then loByte ret else if b = s.sp - 1 then hiByte ret
      else if b = s.sp then pswByte s.psw s.imf else memRead8 s b := by
  have hd := ((State.wf_iff s).1 h).1
  rw [memRead8_of_data (entryStack s ret) _ b hb (enterException_data s ret vector)]
  unfold entryStack
  rw [memRead8_memWrite8 _ (memWf_memWrite8 _ (memWf_memWrite8 s hd _ _) _ _),
    memRead8_memWrite8 _ (memWf_memWrite8 s hd _ _), memRead8_memWrite8 s hd]

/-- What the return does (R358). -/
theorem returnFromException_spec (s : State) :
    returnFromException s =
      (((s.withSp (s.sp + 3)).withPsw (pswOfByte (memRead8 s (s.sp + 3)))).withImf
        (bitOf (memRead8 s (s.sp + 3)) 0)).withPc (poppedWord s) := rfl

/-! The host's events and the step -/

/-- Everything an instruction boundary can do with what the host presents (R356, R357, R380). -/
theorem takeEvent_cases (s t : State) (h : takeEvent s = some t) :
    (s.event = some .reset ∧ t = resetEvent s) ∨
      ∃ source nm, s.event = some (.interrupt source nm) ∧ (nm = true ∨ s.imf = true) ∧
        t = enterInterrupt s source := by
  unfold takeEvent at h
  split at h
  · cases h
  · rename_i he; cases h; exact .inl ⟨he, rfl⟩
  · rename_i source nm he
    split at h
    · rename_i hn; cases h; exact .inr ⟨source, nm, he, by simpa using hn, rfl⟩
    · cases h

/-- Everything a step that answers a next state can do (R101, R356, R361). -/
theorem step_cases (s t : State) (h : step s = .next t) :
    takeEvent s = some t ∨
      takeEvent s = none ∧ ∃ i, decode (fetchWindow s) = .ok i ∧ exec i s = .next t := by
  unfold step at h
  split at h
  · rename_i he; cases h; exact .inl he
  · rename_i he
    split at h
    · rename_i i hd; exact .inr ⟨he, i, hd, h⟩
    · cases h

/-- The state after a reset event is canonical if the code area was. -/
theorem wf_resetEvent (s : State) (h : s.wf = true) : (resetEvent s).wf = true := by
  rw [State.wf_iff] at h ⊢
  exact ⟨memWf_freeData _, h.2.1, imfCell_freeData _⟩

/-- The state after an accepted request is canonical. -/
theorem wf_enterInterrupt (s : State) (h : s.wf = true) (source : Nat) : (enterInterrupt s source).wf = true :=
  wf_enterException (s.withEvent none) h s.pc _

/-- Placing an instruction keeps the canonical form. -/
theorem wf_withFetchWord (s : State) (h : s.wf = true) (nbits w : Nat) : (s.withFetchWord nbits w).wf = true := by
  rw [State.wf_iff] at h ⊢
  exact ⟨h.1, memWf_codePutWindow _ h.2.1 _ _, h.2.2⟩

/-! What a read or an address depends on. -/

/-- A read of the data area sees the area and IMF only. -/
theorem memRead8_of_eq (s t : State) (hd : t.data = s.data) (hi : t.imf = s.imf) (b : Word) :
    memRead8 t b = memRead8 s b := by
  unfold memRead8; rw [hd, hi]

/-- A source address sees the current bank, SP and `pc` only. -/
theorem srcAddr_of_eq (m : Src) (s t : State) (hb : t.bank = s.bank) (hs : t.sp = s.sp) (hp : t.pc = s.pc) :
    srcAddr m t = srcAddr m s := by
  cases m <;> simp [srcAddr, readR16, readR8, hb, hs, hp]

/-- A destination address sees the current bank and SP only. -/
theorem dstAddr_of_eq (m : Dst) (s t : State) (hb : t.bank = s.bank) (hs : t.sp = s.sp) :
    dstAddr m t = dstAddr m s := by
  cases m <;> simp [dstAddr, readR16, readR8, hb, hs]

/-- What an entry leaves at 0x003A: the stored bits 7..1 and the cleared IMF. -/
theorem memRead8_enterException_imf (s : State) (ret vector : Word) :
    memRead8 (enterException s ret vector) Config.imfAddr =
      setBit (memRead8 (entryStack s ret) Config.imfAddr) 0 false := by
  unfold memRead8
  rw [if_pos rfl, if_pos rfl, enterException_imf, enterException_data]
  generalize memGet _ _ = v
  generalize (entryStack s ret).imf = c
  revert v c; decide

/-- The bytes on the stack before IMF is cleared (R352). -/
theorem memRead8_entryStack (s : State) (h : s.wf = true) (ret b : Word) :
    memRead8 (entryStack s ret) b =
      if b = s.sp - 2 then loByte ret else if b = s.sp - 1 then hiByte ret
      else if b = s.sp then pswByte s.psw s.imf else memRead8 s b := by
  have hd := ((State.wf_iff s).1 h).1
  unfold entryStack
  rw [memRead8_memWrite8 _ (memWf_memWrite8 _ (memWf_memWrite8 s hd _ _) _ _),
    memRead8_memWrite8 _ (memWf_memWrite8 s hd _ _), memRead8_memWrite8 s hd]

end Sys2Proof.Machine
end

