-- ==== Sys2Proof/Laws/PerInstr.lean ====
section
/-!
SUPPORT. The family `FormWf`, one lemma per constructor: the well-formedness of an instruction is that of its
operand form, and its encoding has one to five bytes (R80).
-/

namespace Sys2Proof.Laws

open Sys2Proof

/-- The form has an encoding: register code 7 is not available in these forms (R23). -/
def formEncodable (f : Form) : Bool :=
  match f with
  | .incRR rr => rr.below7
  | .decRR rr => rr.below7
  | .ldRRMN rr _ => rr.below7
  | .ldRRGG rr _ => rr.below7
  | .xchRRGG rr _ => rr.below7
  | .ldRRSrc rr _ => rr.below7
  | .ldDstRR _ rr => rr.below7
  | _ => true

/-- What the family says of an instruction. -/
def FormWf.Statement (i : Instr) : Prop := i.wf = formEncodable i.form ∧ 1 ≤ i.length ∧ i.length ≤ 5

/-- A length that is a number between 1 and 5. -/
theorem FormWf.of_length (i : Instr) (n : Nat) (hw : i.wf = formEncodable i.form) (hl : i.length = n)
    (hn : (Nat.ble 1 n && Nat.ble n 5) = true) : FormWf.Statement i := by
  subst hl
  simpa [FormWf.Statement, hw, Nat.ble_eq] using hn

theorem FormWf.nop : FormWf.Statement .nop :=
  FormWf.of_length _ 1 rfl rfl rfl
theorem FormWf.clrCF : FormWf.Statement .clrCF :=
  FormWf.of_length _ 1 rfl rfl rfl
theorem FormWf.setCF : FormWf.Statement .setCF :=
  FormWf.of_length _ 1 rfl rfl rfl
theorem FormWf.cplCF : FormWf.Statement .cplCF :=
  FormWf.of_length _ 1 rfl rfl rfl
theorem FormWf.cmpAtXN (x : Byte) (n : Byte) : FormWf.Statement (.cmpAtXN x n) :=
  FormWf.of_length _ 3 rfl rfl rfl
theorem FormWf.ldwAtXMN (x : Byte) (mn : Word) : FormWf.Statement (.ldwAtXMN x mn) :=
  FormWf.of_length _ 4 rfl rfl rfl
theorem FormWf.ldwAtHLMN (mn : Word) : FormWf.Statement (.ldwAtHLMN mn) :=
  FormWf.of_length _ 3 rfl rfl rfl
theorem FormWf.ldAtXN (x : Byte) (n : Byte) : FormWf.Statement (.ldAtXN x n) :=
  FormWf.of_length _ 3 rfl rfl rfl
theorem FormWf.ldAtHLN (n : Byte) : FormWf.Statement (.ldAtHLN n) :=
  FormWf.of_length _ 2 rfl rfl rfl
theorem FormWf.ldAAtX (x : Byte) : FormWf.Statement (.ldAAtX x) :=
  FormWf.of_length _ 2 rfl rfl rfl
theorem FormWf.ldAAtHL : FormWf.Statement .ldAAtHL :=
  FormWf.of_length _ 1 rfl rfl rfl
theorem FormWf.ldAtXA (x : Byte) : FormWf.Statement (.ldAtXA x) :=
  FormWf.of_length _ 2 rfl rfl rfl
theorem FormWf.ldAtHLA : FormWf.Statement .ldAtHLA :=
  FormWf.of_length _ 1 rfl rfl rfl
theorem FormWf.ldAR (r : Reg8) : FormWf.Statement (.ldAR r) :=
  FormWf.of_length _ 1 rfl rfl rfl
theorem FormWf.ldRN (r : Reg8) (n : Byte) : FormWf.Statement (.ldRN r n) :=
  FormWf.of_length _ 2 rfl rfl rfl
theorem FormWf.incR (r : Reg8) : FormWf.Statement (.incR r) :=
  FormWf.of_length _ 1 rfl rfl rfl
theorem FormWf.decR (r : Reg8) : FormWf.Statement (.decR r) :=
  FormWf.of_length _ 1 rfl rfl rfl
theorem FormWf.incRR (rr : Reg16) : FormWf.Statement (.incRR rr) :=
  FormWf.of_length _ 1 rfl rfl rfl
theorem FormWf.ldSPAddD (d : Byte) : FormWf.Statement (.ldSPAddD d) :=
  FormWf.of_length _ 2 rfl rfl rfl
theorem FormWf.decRR (rr : Reg16) : FormWf.Statement (.decRR rr) :=
  FormWf.of_length _ 1 rfl rfl rfl
theorem FormWf.ldSPSubD (d : Byte) : FormWf.Statement (.ldSPSubD d) :=
  FormWf.of_length _ 2 rfl rfl rfl
theorem FormWf.ldRA (r : Reg8) : FormWf.Statement (.ldRA r) :=
  FormWf.of_length _ 1 rfl rfl rfl
theorem FormWf.ldRRMN (rr : Reg16) (mn : Word) : FormWf.Statement (.ldRRMN rr mn) :=
  FormWf.of_length _ 3 rfl rfl rfl
theorem FormWf.pushRR (p : Pair) : FormWf.Statement (.pushRR p) :=
  FormWf.of_length _ 1 rfl rfl rfl
theorem FormWf.ldCFAtXb (x : Byte) (b : BitNo) : FormWf.Statement (.ldCFAtXb x b) :=
  FormWf.of_length _ 2 rfl rfl rfl
theorem FormWf.testAtXb (x : Byte) (b : BitNo) : FormWf.Statement (.testAtXb x b) :=
  FormWf.of_length _ 2 rfl rfl rfl
theorem FormWf.addcAN (n : Byte) : FormWf.Statement (.addcAN n) :=
  FormWf.of_length _ 2 rfl rfl rfl
theorem FormWf.addAN (n : Byte) : FormWf.Statement (.addAN n) :=
  FormWf.of_length _ 2 rfl rfl rfl
theorem FormWf.subbAN (n : Byte) : FormWf.Statement (.subbAN n) :=
  FormWf.of_length _ 2 rfl rfl rfl
theorem FormWf.subAN (n : Byte) : FormWf.Statement (.subAN n) :=
  FormWf.of_length _ 2 rfl rfl rfl
theorem FormWf.andAN (n : Byte) : FormWf.Statement (.andAN n) :=
  FormWf.of_length _ 2 rfl rfl rfl
theorem FormWf.xorAN (n : Byte) : FormWf.Statement (.xorAN n) :=
  FormWf.of_length _ 2 rfl rfl rfl
theorem FormWf.orAN (n : Byte) : FormWf.Statement (.orAN n) :=
  FormWf.of_length _ 2 rfl rfl rfl
theorem FormWf.cmpAN (n : Byte) : FormWf.Statement (.cmpAN n) :=
  FormWf.of_length _ 2 rfl rfl rfl
theorem FormWf.callvN (n : BitVec 4) : FormWf.Statement (.callvN n) :=
  FormWf.of_length _ 1 rfl rfl rfl
theorem FormWf.jrsT (d : BitVec 5) : FormWf.Statement (.jrsT d) :=
  FormWf.of_length _ 1 rfl rfl rfl
theorem FormWf.jrsF (d : BitVec 5) : FormWf.Statement (.jrsF d) :=
  FormWf.of_length _ 1 rfl rfl rfl
theorem FormWf.setAtXb (x : Byte) (b : BitNo) : FormWf.Statement (.setAtXb x b) :=
  FormWf.of_length _ 2 rfl rfl rfl
theorem FormWf.ei : FormWf.Statement .ei :=
  FormWf.of_length _ 2 rfl rfl rfl
theorem FormWf.clrAtXb (x : Byte) (b : BitNo) : FormWf.Statement (.clrAtXb x b) :=
  FormWf.of_length _ 2 rfl rfl rfl
theorem FormWf.di : FormWf.Statement .di :=
  FormWf.of_length _ 2 rfl rfl rfl
theorem FormWf.popRR (p : Pair) : FormWf.Statement (.popRR p) :=
  FormWf.of_length _ 1 rfl rfl rfl
theorem FormWf.jrZ (d : Byte) : FormWf.Statement (.jrZ d) :=
  FormWf.of_length _ 2 rfl rfl rfl
theorem FormWf.jrNZ (d : Byte) : FormWf.Statement (.jrNZ d) :=
  FormWf.of_length _ 2 rfl rfl rfl
theorem FormWf.jrCS (d : Byte) : FormWf.Statement (.jrCS d) :=
  FormWf.of_length _ 2 rfl rfl rfl
theorem FormWf.jrCC (d : Byte) : FormWf.Statement (.jrCC d) :=
  FormWf.of_length _ 2 rfl rfl rfl
theorem FormWf.jrLE (d : Byte) : FormWf.Statement (.jrLE d) :=
  FormWf.of_length _ 2 rfl rfl rfl
theorem FormWf.jrGT (d : Byte) : FormWf.Statement (.jrGT d) :=
  FormWf.of_length _ 2 rfl rfl rfl
theorem FormWf.jrT (d : Byte) : FormWf.Statement (.jrT d) :=
  FormWf.of_length _ 2 rfl rfl rfl
theorem FormWf.jrF (d : Byte) : FormWf.Statement (.jrF d) :=
  FormWf.of_length _ 2 rfl rfl rfl
theorem FormWf.ldRBS0 : FormWf.Statement .ldRBS0 :=
  FormWf.of_length _ 2 rfl rfl rfl
theorem FormWf.ldRBS1 : FormWf.Statement .ldRBS1 :=
  FormWf.of_length _ 2 rfl rfl rfl
theorem FormWf.ret : FormWf.Statement .ret :=
  FormWf.of_length _ 1 rfl rfl rfl
theorem FormWf.reti : FormWf.Statement .reti :=
  FormWf.of_length _ 1 rfl rfl rfl
theorem FormWf.jrA (d : Byte) : FormWf.Statement (.jrA d) :=
  FormWf.of_length _ 2 rfl rfl rfl
theorem FormWf.callMN (mn : Word) : FormWf.Statement (.callMN mn) :=
  FormWf.of_length _ 3 rfl rfl rfl
theorem FormWf.jpMN (mn : Word) : FormWf.Statement (.jpMN mn) :=
  FormWf.of_length _ 3 rfl rfl rfl
theorem FormWf.swi : FormWf.Statement .swi :=
  FormWf.of_length _ 1 rfl rfl rfl
theorem FormWf.addcRG (r : Reg8) (g : Reg8) : FormWf.Statement (.addcRG r g) :=
  FormWf.of_length _ 2 rfl rfl rfl
theorem FormWf.addcGN (g : Reg8) (n : Byte) : FormWf.Statement (.addcGN g n) :=
  FormWf.of_length _ 3 rfl rfl rfl
theorem FormWf.addcGGMN (gg : Reg16) (mn : Word) : FormWf.Statement (.addcGGMN gg mn) :=
  FormWf.of_length _ 4 rfl rfl rfl
theorem FormWf.addcRRGG (rr : Reg16) (gg : Reg16) : FormWf.Statement (.addcRRGG rr gg) :=
  FormWf.of_length _ 2 rfl rfl rfl
theorem FormWf.addRG (r : Reg8) (g : Reg8) : FormWf.Statement (.addRG r g) :=
  FormWf.of_length _ 2 rfl rfl rfl
theorem FormWf.addGN (g : Reg8) (n : Byte) : FormWf.Statement (.addGN g n) :=
  FormWf.of_length _ 3 rfl rfl rfl
theorem FormWf.addGGMN (gg : Reg16) (mn : Word) : FormWf.Statement (.addGGMN gg mn) :=
  FormWf.of_length _ 4 rfl rfl rfl
theorem FormWf.addRRGG (rr : Reg16) (gg : Reg16) : FormWf.Statement (.addRRGG rr gg) :=
  FormWf.of_length _ 2 rfl rfl rfl
theorem FormWf.subbRG (r : Reg8) (g : Reg8) : FormWf.Statement (.subbRG r g) :=
  FormWf.of_length _ 2 rfl rfl rfl
theorem FormWf.subbGN (g : Reg8) (n : Byte) : FormWf.Statement (.subbGN g n) :=
  FormWf.of_length _ 3 rfl rfl rfl
theorem FormWf.subbGGMN (gg : Reg16) (mn : Word) : FormWf.Statement (.subbGGMN gg mn) :=
  FormWf.of_length _ 4 rfl rfl rfl
theorem FormWf.subbRRGG (rr : Reg16) (gg : Reg16) : FormWf.Statement (.subbRRGG rr gg) :=
  FormWf.of_length _ 2 rfl rfl rfl
theorem FormWf.subRG (r : Reg8) (g : Reg8) : FormWf.Statement (.subRG r g) :=
  FormWf.of_length _ 2 rfl rfl rfl
theorem FormWf.subGN (g : Reg8) (n : Byte) : FormWf.Statement (.subGN g n) :=
  FormWf.of_length _ 3 rfl rfl rfl
theorem FormWf.subGGMN (gg : Reg16) (mn : Word) : FormWf.Statement (.subGGMN gg mn) :=
  FormWf.of_length _ 4 rfl rfl rfl
theorem FormWf.subRRGG (rr : Reg16) (gg : Reg16) : FormWf.Statement (.subRRGG rr gg) :=
  FormWf.of_length _ 2 rfl rfl rfl
theorem FormWf.andRG (r : Reg8) (g : Reg8) : FormWf.Statement (.andRG r g) :=
  FormWf.of_length _ 2 rfl rfl rfl
theorem FormWf.andGN (g : Reg8) (n : Byte) : FormWf.Statement (.andGN g n) :=
  FormWf.of_length _ 3 rfl rfl rfl
theorem FormWf.andGGMN (gg : Reg16) (mn : Word) : FormWf.Statement (.andGGMN gg mn) :=
  FormWf.of_length _ 4 rfl rfl rfl
theorem FormWf.andRRGG (rr : Reg16) (gg : Reg16) : FormWf.Statement (.andRRGG rr gg) :=
  FormWf.of_length _ 2 rfl rfl rfl
theorem FormWf.xorRG (r : Reg8) (g : Reg8) : FormWf.Statement (.xorRG r g) :=
  FormWf.of_length _ 2 rfl rfl rfl
theorem FormWf.xorGN (g : Reg8) (n : Byte) : FormWf.Statement (.xorGN g n) :=
  FormWf.of_length _ 3 rfl rfl rfl
theorem FormWf.xorGGMN (gg : Reg16) (mn : Word) : FormWf.Statement (.xorGGMN gg mn) :=
  FormWf.of_length _ 4 rfl rfl rfl
theorem FormWf.xorRRGG (rr : Reg16) (gg : Reg16) : FormWf.Statement (.xorRRGG rr gg) :=
  FormWf.of_length _ 2 rfl rfl rfl
theorem FormWf.orRG (r : Reg8) (g : Reg8) : FormWf.Statement (.orRG r g) :=
  FormWf.of_length _ 2 rfl rfl rfl
theorem FormWf.orGN (g : Reg8) (n : Byte) : FormWf.Statement (.orGN g n) :=
  FormWf.of_length _ 3 rfl rfl rfl
theorem FormWf.orGGMN (gg : Reg16) (mn : Word) : FormWf.Statement (.orGGMN gg mn) :=
  FormWf.of_length _ 4 rfl rfl rfl
theorem FormWf.orRRGG (rr : Reg16) (gg : Reg16) : FormWf.Statement (.orRRGG rr gg) :=
  FormWf.of_length _ 2 rfl rfl rfl
theorem FormWf.cmpRG (r : Reg8) (g : Reg8) : FormWf.Statement (.cmpRG r g) :=
  FormWf.of_length _ 2 rfl rfl rfl
theorem FormWf.cmpGN (g : Reg8) (n : Byte) : FormWf.Statement (.cmpGN g n) :=
  FormWf.of_length _ 3 rfl rfl rfl
theorem FormWf.cmpGGMN (gg : Reg16) (mn : Word) : FormWf.Statement (.cmpGGMN gg mn) :=
  FormWf.of_length _ 4 rfl rfl rfl
theorem FormWf.cmpRRGG (rr : Reg16) (gg : Reg16) : FormWf.Statement (.cmpRRGG rr gg) :=
  FormWf.of_length _ 2 rfl rfl rfl
theorem FormWf.ldRG (r : Reg8) (g : Reg8) : FormWf.Statement (.ldRG r g) :=
  FormWf.of_length _ 2 rfl rfl rfl
theorem FormWf.ldRRGG (rr : Reg16) (gg : Reg16) : FormWf.Statement (.ldRRGG rr gg) :=
  FormWf.of_length _ 2 rfl rfl rfl
theorem FormWf.xorCFGb (g : Reg8) (b : BitNo) : FormWf.Statement (.xorCFGb g b) :=
  FormWf.of_length _ 2 rfl rfl rfl
theorem FormWf.ldCFGb (g : Reg8) (b : BitNo) : FormWf.Statement (.ldCFGb g b) :=
  FormWf.of_length _ 2 rfl rfl rfl
theorem FormWf.testGb (g : Reg8) (b : BitNo) : FormWf.Statement (.testGb g b) :=
  FormWf.of_length _ 2 rfl rfl rfl
theorem FormWf.xchRG (r : Reg8) (g : Reg8) : FormWf.Statement (.xchRG r g) :=
  FormWf.of_length _ 2 rfl rfl rfl
theorem FormWf.xchRRGG (rr : Reg16) (gg : Reg16) : FormWf.Statement (.xchRRGG rr gg) :=
  FormWf.of_length _ 2 rfl rfl rfl
theorem FormWf.setGb (g : Reg8) (b : BitNo) : FormWf.Statement (.setGb g b) :=
  FormWf.of_length _ 2 rfl rfl rfl
theorem FormWf.clrGb (g : Reg8) (b : BitNo) : FormWf.Statement (.clrGb g b) :=
  FormWf.of_length _ 2 rfl rfl rfl
theorem FormWf.jrM (d : Byte) : FormWf.Statement (.jrM d) :=
  FormWf.of_length _ 3 rfl rfl rfl
theorem FormWf.jrP (d : Byte) : FormWf.Statement (.jrP d) :=
  FormWf.of_length _ 3 rfl rfl rfl
theorem FormWf.jrSLT (d : Byte) : FormWf.Statement (.jrSLT d) :=
  FormWf.of_length _ 3 rfl rfl rfl
theorem FormWf.jrSGE (d : Byte) : FormWf.Statement (.jrSGE d) :=
  FormWf.of_length _ 3 rfl rfl rfl
theorem FormWf.jrSLE (d : Byte) : FormWf.Statement (.jrSLE d) :=
  FormWf.of_length _ 3 rfl rfl rfl
theorem FormWf.jrSGT (d : Byte) : FormWf.Statement (.jrSGT d) :=
  FormWf.of_length _ 3 rfl rfl rfl
theorem FormWf.jrVS (d : Byte) : FormWf.Statement (.jrVS d) :=
  FormWf.of_length _ 3 rfl rfl rfl
theorem FormWf.jrVC (d : Byte) : FormWf.Statement (.jrVC d) :=
  FormWf.of_length _ 3 rfl rfl rfl
theorem FormWf.pushIX : FormWf.Statement .pushIX :=
  FormWf.of_length _ 2 rfl rfl rfl
theorem FormWf.pushIY : FormWf.Statement .pushIY :=
  FormWf.of_length _ 2 rfl rfl rfl
theorem FormWf.popIX : FormWf.Statement .popIX :=
  FormWf.of_length _ 2 rfl rfl rfl
theorem FormWf.popIY : FormWf.Statement .popIY :=
  FormWf.of_length _ 2 rfl rfl rfl
theorem FormWf.daaG (g : Reg8) : FormWf.Statement (.daaG g) :=
  FormWf.of_length _ 2 rfl rfl rfl
theorem FormWf.dasG (g : Reg8) : FormWf.Statement (.dasG g) :=
  FormWf.of_length _ 2 rfl rfl rfl
theorem FormWf.pushPSW : FormWf.Statement .pushPSW :=
  FormWf.of_length _ 2 rfl rfl rfl
theorem FormWf.popPSW : FormWf.Statement .popPSW :=
  FormWf.of_length _ 2 rfl rfl rfl
theorem FormWf.ldPSWN (n : Byte) : FormWf.Statement (.ldPSWN n) :=
  FormWf.of_length _ 3 rfl rfl rfl
theorem FormWf.cplGb (g : Reg8) (b : BitNo) : FormWf.Statement (.cplGb g b) :=
  FormWf.of_length _ 2 rfl rfl rfl
theorem FormWf.ldGbCF (g : Reg8) (b : BitNo) : FormWf.Statement (.ldGbCF g b) :=
  FormWf.of_length _ 2 rfl rfl rfl
theorem FormWf.shlcaGG (gg : Reg16) : FormWf.Statement (.shlcaGG gg) :=
  FormWf.of_length _ 2 rfl rfl rfl
theorem FormWf.shrcaGG (gg : Reg16) : FormWf.Statement (.shrcaGG gg) :=
  FormWf.of_length _ 2 rfl rfl rfl
theorem FormWf.mulWA : FormWf.Statement .mulWA :=
  FormWf.of_length _ 2 rfl rfl rfl
theorem FormWf.mulBC : FormWf.Statement .mulBC :=
  FormWf.of_length _ 2 rfl rfl rfl
theorem FormWf.mulDE : FormWf.Statement .mulDE :=
  FormWf.of_length _ 2 rfl rfl rfl
theorem FormWf.mulHL : FormWf.Statement .mulHL :=
  FormWf.of_length _ 2 rfl rfl rfl
theorem FormWf.divWAC : FormWf.Statement .divWAC :=
  FormWf.of_length _ 2 rfl rfl rfl
theorem FormWf.divDEC : FormWf.Statement .divDEC :=
  FormWf.of_length _ 2 rfl rfl rfl
theorem FormWf.divHLC : FormWf.Statement .divHLC :=
  FormWf.of_length _ 2 rfl rfl rfl
theorem FormWf.shlcG (g : Reg8) : FormWf.Statement (.shlcG g) :=
  FormWf.of_length _ 2 rfl rfl rfl
theorem FormWf.shrcG (g : Reg8) : FormWf.Statement (.shrcG g) :=
  FormWf.of_length _ 2 rfl rfl rfl
theorem FormWf.rolcG (g : Reg8) : FormWf.Statement (.rolcG g) :=
  FormWf.of_length _ 2 rfl rfl rfl
theorem FormWf.rorcG (g : Reg8) : FormWf.Statement (.rorcG g) :=
  FormWf.of_length _ 2 rfl rfl rfl
theorem FormWf.negCSGG (gg : Reg16) : FormWf.Statement (.negCSGG gg) :=
  FormWf.of_length _ 2 rfl rfl rfl
theorem FormWf.retn : FormWf.Statement .retn :=
  FormWf.of_length _ 2 rfl rfl rfl
theorem FormWf.callGG (gg : Reg16) : FormWf.Statement (.callGG gg) :=
  FormWf.of_length _ 2 rfl rfl rfl
theorem FormWf.jpGG (gg : Reg16) : FormWf.Statement (.jpGG gg) :=
  FormWf.of_length _ 2 rfl rfl rfl
theorem FormWf.swapG (g : Reg8) : FormWf.Statement (.swapG g) :=
  FormWf.of_length _ 2 rfl rfl rfl
theorem FormWf.addcRAtX (r : Reg8) (x : Byte) : FormWf.Statement (.addcRAtX r x) :=
  FormWf.of_length _ 3 rfl rfl rfl
theorem FormWf.addcRAtVW (r : Reg8) (addr : Word) : FormWf.Statement (.addcRAtVW r addr) :=
  FormWf.of_length _ 4 rfl rfl rfl
theorem FormWf.addcRAtDE (r : Reg8) : FormWf.Statement (.addcRAtDE r) :=
  FormWf.of_length _ 2 rfl rfl rfl
theorem FormWf.addcRAtHL (r : Reg8) : FormWf.Statement (.addcRAtHL r) :=
  FormWf.of_length _ 2 rfl rfl rfl
theorem FormWf.addcRAtIX (r : Reg8) : FormWf.Statement (.addcRAtIX r) :=
  FormWf.of_length _ 2 rfl rfl rfl
theorem FormWf.addcRAtIY (r : Reg8) : FormWf.Statement (.addcRAtIY r) :=
  FormWf.of_length _ 2 rfl rfl rfl
theorem FormWf.addcRAtIncSP (r : Reg8) : FormWf.Statement (.addcRAtIncSP r) :=
  FormWf.of_length _ 2 rfl rfl rfl
theorem FormWf.addcRAtHLC (r : Reg8) : FormWf.Statement (.addcRAtHLC r) :=
  FormWf.of_length _ 2 rfl rfl rfl
theorem FormWf.addcRAtIXd (r : Reg8) (d : Byte) : FormWf.Statement (.addcRAtIXd r d) :=
  FormWf.of_length _ 3 rfl rfl rfl
theorem FormWf.addcRAtIYd (r : Reg8) (d : Byte) : FormWf.Statement (.addcRAtIYd r d) :=
  FormWf.of_length _ 3 rfl rfl rfl
theorem FormWf.addcRAtSPd (r : Reg8) (d : Byte) : FormWf.Statement (.addcRAtSPd r d) :=
  FormWf.of_length _ 3 rfl rfl rfl
theorem FormWf.addcRAtHLd (r : Reg8) (d : Byte) : FormWf.Statement (.addcRAtHLd r d) :=
  FormWf.of_length _ 3 rfl rfl rfl
theorem FormWf.addcRAtPCA (r : Reg8) : FormWf.Statement (.addcRAtPCA r) :=
  FormWf.of_length _ 2 rfl rfl rfl
theorem FormWf.addcAtXN (x : Byte) (n : Byte) : FormWf.Statement (.addcAtXN x n) :=
  FormWf.of_length _ 4 rfl rfl rfl
theorem FormWf.addcAtVWN (addr : Word) (n : Byte) : FormWf.Statement (.addcAtVWN addr n) :=
  FormWf.of_length _ 5 rfl rfl rfl
theorem FormWf.addcAtDEN (n : Byte) : FormWf.Statement (.addcAtDEN n) :=
  FormWf.of_length _ 3 rfl rfl rfl
theorem FormWf.addcAtHLN (n : Byte) : FormWf.Statement (.addcAtHLN n) :=
  FormWf.of_length _ 3 rfl rfl rfl
theorem FormWf.addcAtIXN (n : Byte) : FormWf.Statement (.addcAtIXN n) :=
  FormWf.of_length _ 3 rfl rfl rfl
theorem FormWf.addcAtIYN (n : Byte) : FormWf.Statement (.addcAtIYN n) :=
  FormWf.of_length _ 3 rfl rfl rfl
theorem FormWf.addcAtIncSPN (n : Byte) : FormWf.Statement (.addcAtIncSPN n) :=
  FormWf.of_length _ 3 rfl rfl rfl
theorem FormWf.addcAtHLCN (n : Byte) : FormWf.Statement (.addcAtHLCN n) :=
  FormWf.of_length _ 3 rfl rfl rfl
theorem FormWf.addcAtIXdN (d : Byte) (n : Byte) : FormWf.Statement (.addcAtIXdN d n) :=
  FormWf.of_length _ 4 rfl rfl rfl
theorem FormWf.addcAtIYdN (d : Byte) (n : Byte) : FormWf.Statement (.addcAtIYdN d n) :=
  FormWf.of_length _ 4 rfl rfl rfl
theorem FormWf.addcAtSPdN (d : Byte) (n : Byte) : FormWf.Statement (.addcAtSPdN d n) :=
  FormWf.of_length _ 4 rfl rfl rfl
theorem FormWf.addcAtHLdN (d : Byte) (n : Byte) : FormWf.Statement (.addcAtHLdN d n) :=
  FormWf.of_length _ 4 rfl rfl rfl
theorem FormWf.addcAtPCAN (n : Byte) : FormWf.Statement (.addcAtPCAN n) :=
  FormWf.of_length _ 3 rfl rfl rfl
theorem FormWf.addcRRAtX (rr : Reg16) (x : Byte) : FormWf.Statement (.addcRRAtX rr x) :=
  FormWf.of_length _ 3 rfl rfl rfl
theorem FormWf.addcRRAtVW (rr : Reg16) (addr : Word) : FormWf.Statement (.addcRRAtVW rr addr) :=
  FormWf.of_length _ 4 rfl rfl rfl
theorem FormWf.addcRRAtDE (rr : Reg16) : FormWf.Statement (.addcRRAtDE rr) :=
  FormWf.of_length _ 2 rfl rfl rfl
theorem FormWf.addcRRAtHL (rr : Reg16) : FormWf.Statement (.addcRRAtHL rr) :=
  FormWf.of_length _ 2 rfl rfl rfl
theorem FormWf.addcRRAtIX (rr : Reg16) : FormWf.Statement (.addcRRAtIX rr) :=
  FormWf.of_length _ 2 rfl rfl rfl
theorem FormWf.addcRRAtIY (rr : Reg16) : FormWf.Statement (.addcRRAtIY rr) :=
  FormWf.of_length _ 2 rfl rfl rfl
theorem FormWf.addcRRAtIncSP (rr : Reg16) : FormWf.Statement (.addcRRAtIncSP rr) :=
  FormWf.of_length _ 2 rfl rfl rfl
theorem FormWf.addcRRAtHLC (rr : Reg16) : FormWf.Statement (.addcRRAtHLC rr) :=
  FormWf.of_length _ 2 rfl rfl rfl
theorem FormWf.addcRRAtIXd (rr : Reg16) (d : Byte) : FormWf.Statement (.addcRRAtIXd rr d) :=
  FormWf.of_length _ 3 rfl rfl rfl
theorem FormWf.addcRRAtIYd (rr : Reg16) (d : Byte) : FormWf.Statement (.addcRRAtIYd rr d) :=
  FormWf.of_length _ 3 rfl rfl rfl
theorem FormWf.addcRRAtSPd (rr : Reg16) (d : Byte) : FormWf.Statement (.addcRRAtSPd rr d) :=
  FormWf.of_length _ 3 rfl rfl rfl
theorem FormWf.addcRRAtHLd (rr : Reg16) (d : Byte) : FormWf.Statement (.addcRRAtHLd rr d) :=
  FormWf.of_length _ 3 rfl rfl rfl
theorem FormWf.addcRRAtPCA (rr : Reg16) : FormWf.Statement (.addcRRAtPCA rr) :=
  FormWf.of_length _ 2 rfl rfl rfl
theorem FormWf.addRAtX (r : Reg8) (x : Byte) : FormWf.Statement (.addRAtX r x) :=
  FormWf.of_length _ 3 rfl rfl rfl
theorem FormWf.addRAtVW (r : Reg8) (addr : Word) : FormWf.Statement (.addRAtVW r addr) :=
  FormWf.of_length _ 4 rfl rfl rfl
theorem FormWf.addRAtDE (r : Reg8) : FormWf.Statement (.addRAtDE r) :=
  FormWf.of_length _ 2 rfl rfl rfl
theorem FormWf.addRAtHL (r : Reg8) : FormWf.Statement (.addRAtHL r) :=
  FormWf.of_length _ 2 rfl rfl rfl
theorem FormWf.addRAtIX (r : Reg8) : FormWf.Statement (.addRAtIX r) :=
  FormWf.of_length _ 2 rfl rfl rfl
theorem FormWf.addRAtIY (r : Reg8) : FormWf.Statement (.addRAtIY r) :=
  FormWf.of_length _ 2 rfl rfl rfl
theorem FormWf.addRAtIncSP (r : Reg8) : FormWf.Statement (.addRAtIncSP r) :=
  FormWf.of_length _ 2 rfl rfl rfl
theorem FormWf.addRAtHLC (r : Reg8) : FormWf.Statement (.addRAtHLC r) :=
  FormWf.of_length _ 2 rfl rfl rfl
theorem FormWf.addRAtIXd (r : Reg8) (d : Byte) : FormWf.Statement (.addRAtIXd r d) :=
  FormWf.of_length _ 3 rfl rfl rfl
theorem FormWf.addRAtIYd (r : Reg8) (d : Byte) : FormWf.Statement (.addRAtIYd r d) :=
  FormWf.of_length _ 3 rfl rfl rfl
theorem FormWf.addRAtSPd (r : Reg8) (d : Byte) : FormWf.Statement (.addRAtSPd r d) :=
  FormWf.of_length _ 3 rfl rfl rfl
theorem FormWf.addRAtHLd (r : Reg8) (d : Byte) : FormWf.Statement (.addRAtHLd r d) :=
  FormWf.of_length _ 3 rfl rfl rfl
theorem FormWf.addRAtPCA (r : Reg8) : FormWf.Statement (.addRAtPCA r) :=
  FormWf.of_length _ 2 rfl rfl rfl
theorem FormWf.addAtXN (x : Byte) (n : Byte) : FormWf.Statement (.addAtXN x n) :=
  FormWf.of_length _ 4 rfl rfl rfl
theorem FormWf.addAtVWN (addr : Word) (n : Byte) : FormWf.Statement (.addAtVWN addr n) :=
  FormWf.of_length _ 5 rfl rfl rfl
theorem FormWf.addAtDEN (n : Byte) : FormWf.Statement (.addAtDEN n) :=
  FormWf.of_length _ 3 rfl rfl rfl
theorem FormWf.addAtHLN (n : Byte) : FormWf.Statement (.addAtHLN n) :=
  FormWf.of_length _ 3 rfl rfl rfl
theorem FormWf.addAtIXN (n : Byte) : FormWf.Statement (.addAtIXN n) :=
  FormWf.of_length _ 3 rfl rfl rfl
theorem FormWf.addAtIYN (n : Byte) : FormWf.Statement (.addAtIYN n) :=
  FormWf.of_length _ 3 rfl rfl rfl
theorem FormWf.addAtIncSPN (n : Byte) : FormWf.Statement (.addAtIncSPN n) :=
  FormWf.of_length _ 3 rfl rfl rfl
theorem FormWf.addAtHLCN (n : Byte) : FormWf.Statement (.addAtHLCN n) :=
  FormWf.of_length _ 3 rfl rfl rfl
theorem FormWf.addAtIXdN (d : Byte) (n : Byte) : FormWf.Statement (.addAtIXdN d n) :=
  FormWf.of_length _ 4 rfl rfl rfl
theorem FormWf.addAtIYdN (d : Byte) (n : Byte) : FormWf.Statement (.addAtIYdN d n) :=
  FormWf.of_length _ 4 rfl rfl rfl
theorem FormWf.addAtSPdN (d : Byte) (n : Byte) : FormWf.Statement (.addAtSPdN d n) :=
  FormWf.of_length _ 4 rfl rfl rfl
theorem FormWf.addAtHLdN (d : Byte) (n : Byte) : FormWf.Statement (.addAtHLdN d n) :=
  FormWf.of_length _ 4 rfl rfl rfl
theorem FormWf.addAtPCAN (n : Byte) : FormWf.Statement (.addAtPCAN n) :=
  FormWf.of_length _ 3 rfl rfl rfl
theorem FormWf.addRRAtX (rr : Reg16) (x : Byte) : FormWf.Statement (.addRRAtX rr x) :=
  FormWf.of_length _ 3 rfl rfl rfl
theorem FormWf.addRRAtVW (rr : Reg16) (addr : Word) : FormWf.Statement (.addRRAtVW rr addr) :=
  FormWf.of_length _ 4 rfl rfl rfl
theorem FormWf.addRRAtDE (rr : Reg16) : FormWf.Statement (.addRRAtDE rr) :=
  FormWf.of_length _ 2 rfl rfl rfl
theorem FormWf.addRRAtHL (rr : Reg16) : FormWf.Statement (.addRRAtHL rr) :=
  FormWf.of_length _ 2 rfl rfl rfl
theorem FormWf.addRRAtIX (rr : Reg16) : FormWf.Statement (.addRRAtIX rr) :=
  FormWf.of_length _ 2 rfl rfl rfl
theorem FormWf.addRRAtIY (rr : Reg16) : FormWf.Statement (.addRRAtIY rr) :=
  FormWf.of_length _ 2 rfl rfl rfl
theorem FormWf.addRRAtIncSP (rr : Reg16) : FormWf.Statement (.addRRAtIncSP rr) :=
  FormWf.of_length _ 2 rfl rfl rfl
theorem FormWf.addRRAtHLC (rr : Reg16) : FormWf.Statement (.addRRAtHLC rr) :=
  FormWf.of_length _ 2 rfl rfl rfl
theorem FormWf.addRRAtIXd (rr : Reg16) (d : Byte) : FormWf.Statement (.addRRAtIXd rr d) :=
  FormWf.of_length _ 3 rfl rfl rfl
theorem FormWf.addRRAtIYd (rr : Reg16) (d : Byte) : FormWf.Statement (.addRRAtIYd rr d) :=
  FormWf.of_length _ 3 rfl rfl rfl
theorem FormWf.addRRAtSPd (rr : Reg16) (d : Byte) : FormWf.Statement (.addRRAtSPd rr d) :=
  FormWf.of_length _ 3 rfl rfl rfl
theorem FormWf.addRRAtHLd (rr : Reg16) (d : Byte) : FormWf.Statement (.addRRAtHLd rr d) :=
  FormWf.of_length _ 3 rfl rfl rfl
theorem FormWf.addRRAtPCA (rr : Reg16) : FormWf.Statement (.addRRAtPCA rr) :=
  FormWf.of_length _ 2 rfl rfl rfl
theorem FormWf.subbRAtX (r : Reg8) (x : Byte) : FormWf.Statement (.subbRAtX r x) :=
  FormWf.of_length _ 3 rfl rfl rfl
theorem FormWf.subbRAtVW (r : Reg8) (addr : Word) : FormWf.Statement (.subbRAtVW r addr) :=
  FormWf.of_length _ 4 rfl rfl rfl
theorem FormWf.subbRAtDE (r : Reg8) : FormWf.Statement (.subbRAtDE r) :=
  FormWf.of_length _ 2 rfl rfl rfl
theorem FormWf.subbRAtHL (r : Reg8) : FormWf.Statement (.subbRAtHL r) :=
  FormWf.of_length _ 2 rfl rfl rfl
theorem FormWf.subbRAtIX (r : Reg8) : FormWf.Statement (.subbRAtIX r) :=
  FormWf.of_length _ 2 rfl rfl rfl
theorem FormWf.subbRAtIY (r : Reg8) : FormWf.Statement (.subbRAtIY r) :=
  FormWf.of_length _ 2 rfl rfl rfl
theorem FormWf.subbRAtIncSP (r : Reg8) : FormWf.Statement (.subbRAtIncSP r) :=
  FormWf.of_length _ 2 rfl rfl rfl
theorem FormWf.subbRAtHLC (r : Reg8) : FormWf.Statement (.subbRAtHLC r) :=
  FormWf.of_length _ 2 rfl rfl rfl
theorem FormWf.subbRAtIXd (r : Reg8) (d : Byte) : FormWf.Statement (.subbRAtIXd r d) :=
  FormWf.of_length _ 3 rfl rfl rfl
theorem FormWf.subbRAtIYd (r : Reg8) (d : Byte) : FormWf.Statement (.subbRAtIYd r d) :=
  FormWf.of_length _ 3 rfl rfl rfl
theorem FormWf.subbRAtSPd (r : Reg8) (d : Byte) : FormWf.Statement (.subbRAtSPd r d) :=
  FormWf.of_length _ 3 rfl rfl rfl
theorem FormWf.subbRAtHLd (r : Reg8) (d : Byte) : FormWf.Statement (.subbRAtHLd r d) :=
  FormWf.of_length _ 3 rfl rfl rfl
theorem FormWf.subbRAtPCA (r : Reg8) : FormWf.Statement (.subbRAtPCA r) :=
  FormWf.of_length _ 2 rfl rfl rfl
theorem FormWf.subbAtXN (x : Byte) (n : Byte) : FormWf.Statement (.subbAtXN x n) :=
  FormWf.of_length _ 4 rfl rfl rfl
theorem FormWf.subbAtVWN (addr : Word) (n : Byte) : FormWf.Statement (.subbAtVWN addr n) :=
  FormWf.of_length _ 5 rfl rfl rfl
theorem FormWf.subbAtDEN (n : Byte) : FormWf.Statement (.subbAtDEN n) :=
  FormWf.of_length _ 3 rfl rfl rfl
theorem FormWf.subbAtHLN (n : Byte) : FormWf.Statement (.subbAtHLN n) :=
  FormWf.of_length _ 3 rfl rfl rfl
theorem FormWf.subbAtIXN (n : Byte) : FormWf.Statement (.subbAtIXN n) :=
  FormWf.of_length _ 3 rfl rfl rfl
theorem FormWf.subbAtIYN (n : Byte) : FormWf.Statement (.subbAtIYN n) :=
  FormWf.of_length _ 3 rfl rfl rfl
theorem FormWf.subbAtIncSPN (n : Byte) : FormWf.Statement (.subbAtIncSPN n) :=
  FormWf.of_length _ 3 rfl rfl rfl
theorem FormWf.subbAtHLCN (n : Byte) : FormWf.Statement (.subbAtHLCN n) :=
  FormWf.of_length _ 3 rfl rfl rfl
theorem FormWf.subbAtIXdN (d : Byte) (n : Byte) : FormWf.Statement (.subbAtIXdN d n) :=
  FormWf.of_length _ 4 rfl rfl rfl
theorem FormWf.subbAtIYdN (d : Byte) (n : Byte) : FormWf.Statement (.subbAtIYdN d n) :=
  FormWf.of_length _ 4 rfl rfl rfl
theorem FormWf.subbAtSPdN (d : Byte) (n : Byte) : FormWf.Statement (.subbAtSPdN d n) :=
  FormWf.of_length _ 4 rfl rfl rfl
theorem FormWf.subbAtHLdN (d : Byte) (n : Byte) : FormWf.Statement (.subbAtHLdN d n) :=
  FormWf.of_length _ 4 rfl rfl rfl
theorem FormWf.subbAtPCAN (n : Byte) : FormWf.Statement (.subbAtPCAN n) :=
  FormWf.of_length _ 3 rfl rfl rfl
theorem FormWf.subbRRAtX (rr : Reg16) (x : Byte) : FormWf.Statement (.subbRRAtX rr x) :=
  FormWf.of_length _ 3 rfl rfl rfl
theorem FormWf.subbRRAtVW (rr : Reg16) (addr : Word) : FormWf.Statement (.subbRRAtVW rr addr) :=
  FormWf.of_length _ 4 rfl rfl rfl
theorem FormWf.subbRRAtDE (rr : Reg16) : FormWf.Statement (.subbRRAtDE rr) :=
  FormWf.of_length _ 2 rfl rfl rfl
theorem FormWf.subbRRAtHL (rr : Reg16) : FormWf.Statement (.subbRRAtHL rr) :=
  FormWf.of_length _ 2 rfl rfl rfl
theorem FormWf.subbRRAtIX (rr : Reg16) : FormWf.Statement (.subbRRAtIX rr) :=
  FormWf.of_length _ 2 rfl rfl rfl
theorem FormWf.subbRRAtIY (rr : Reg16) : FormWf.Statement (.subbRRAtIY rr) :=
  FormWf.of_length _ 2 rfl rfl rfl
theorem FormWf.subbRRAtIncSP (rr : Reg16) : FormWf.Statement (.subbRRAtIncSP rr) :=
  FormWf.of_length _ 2 rfl rfl rfl
theorem FormWf.subbRRAtHLC (rr : Reg16) : FormWf.Statement (.subbRRAtHLC rr) :=
  FormWf.of_length _ 2 rfl rfl rfl
theorem FormWf.subbRRAtIXd (rr : Reg16) (d : Byte) : FormWf.Statement (.subbRRAtIXd rr d) :=
  FormWf.of_length _ 3 rfl rfl rfl
theorem FormWf.subbRRAtIYd (rr : Reg16) (d : Byte) : FormWf.Statement (.subbRRAtIYd rr d) :=
  FormWf.of_length _ 3 rfl rfl rfl
theorem FormWf.subbRRAtSPd (rr : Reg16) (d : Byte) : FormWf.Statement (.subbRRAtSPd rr d) :=
  FormWf.of_length _ 3 rfl rfl rfl
theorem FormWf.subbRRAtHLd (rr : Reg16) (d : Byte) : FormWf.Statement (.subbRRAtHLd rr d) :=
  FormWf.of_length _ 3 rfl rfl rfl
theorem FormWf.subbRRAtPCA (rr : Reg16) : FormWf.Statement (.subbRRAtPCA rr) :=
  FormWf.of_length _ 2 rfl rfl rfl
theorem FormWf.subRAtX (r : Reg8) (x : Byte) : FormWf.Statement (.subRAtX r x) :=
  FormWf.of_length _ 3 rfl rfl rfl
theorem FormWf.subRAtVW (r : Reg8) (addr : Word) : FormWf.Statement (.subRAtVW r addr) :=
  FormWf.of_length _ 4 rfl rfl rfl
theorem FormWf.subRAtDE (r : Reg8) : FormWf.Statement (.subRAtDE r) :=
  FormWf.of_length _ 2 rfl rfl rfl
theorem FormWf.subRAtHL (r : Reg8) : FormWf.Statement (.subRAtHL r) :=
  FormWf.of_length _ 2 rfl rfl rfl
theorem FormWf.subRAtIX (r : Reg8) : FormWf.Statement (.subRAtIX r) :=
  FormWf.of_length _ 2 rfl rfl rfl
theorem FormWf.subRAtIY (r : Reg8) : FormWf.Statement (.subRAtIY r) :=
  FormWf.of_length _ 2 rfl rfl rfl
theorem FormWf.subRAtIncSP (r : Reg8) : FormWf.Statement (.subRAtIncSP r) :=
  FormWf.of_length _ 2 rfl rfl rfl
theorem FormWf.subRAtHLC (r : Reg8) : FormWf.Statement (.subRAtHLC r) :=
  FormWf.of_length _ 2 rfl rfl rfl
theorem FormWf.subRAtIXd (r : Reg8) (d : Byte) : FormWf.Statement (.subRAtIXd r d) :=
  FormWf.of_length _ 3 rfl rfl rfl
theorem FormWf.subRAtIYd (r : Reg8) (d : Byte) : FormWf.Statement (.subRAtIYd r d) :=
  FormWf.of_length _ 3 rfl rfl rfl
theorem FormWf.subRAtSPd (r : Reg8) (d : Byte) : FormWf.Statement (.subRAtSPd r d) :=
  FormWf.of_length _ 3 rfl rfl rfl
theorem FormWf.subRAtHLd (r : Reg8) (d : Byte) : FormWf.Statement (.subRAtHLd r d) :=
  FormWf.of_length _ 3 rfl rfl rfl
theorem FormWf.subRAtPCA (r : Reg8) : FormWf.Statement (.subRAtPCA r) :=
  FormWf.of_length _ 2 rfl rfl rfl
theorem FormWf.subAtXN (x : Byte) (n : Byte) : FormWf.Statement (.subAtXN x n) :=
  FormWf.of_length _ 4 rfl rfl rfl
theorem FormWf.subAtVWN (addr : Word) (n : Byte) : FormWf.Statement (.subAtVWN addr n) :=
  FormWf.of_length _ 5 rfl rfl rfl
theorem FormWf.subAtDEN (n : Byte) : FormWf.Statement (.subAtDEN n) :=
  FormWf.of_length _ 3 rfl rfl rfl
theorem FormWf.subAtHLN (n : Byte) : FormWf.Statement (.subAtHLN n) :=
  FormWf.of_length _ 3 rfl rfl rfl
theorem FormWf.subAtIXN (n : Byte) : FormWf.Statement (.subAtIXN n) :=
  FormWf.of_length _ 3 rfl rfl rfl
theorem FormWf.subAtIYN (n : Byte) : FormWf.Statement (.subAtIYN n) :=
  FormWf.of_length _ 3 rfl rfl rfl
theorem FormWf.subAtIncSPN (n : Byte) : FormWf.Statement (.subAtIncSPN n) :=
  FormWf.of_length _ 3 rfl rfl rfl
theorem FormWf.subAtHLCN (n : Byte) : FormWf.Statement (.subAtHLCN n) :=
  FormWf.of_length _ 3 rfl rfl rfl
theorem FormWf.subAtIXdN (d : Byte) (n : Byte) : FormWf.Statement (.subAtIXdN d n) :=
  FormWf.of_length _ 4 rfl rfl rfl
theorem FormWf.subAtIYdN (d : Byte) (n : Byte) : FormWf.Statement (.subAtIYdN d n) :=
  FormWf.of_length _ 4 rfl rfl rfl
theorem FormWf.subAtSPdN (d : Byte) (n : Byte) : FormWf.Statement (.subAtSPdN d n) :=
  FormWf.of_length _ 4 rfl rfl rfl
theorem FormWf.subAtHLdN (d : Byte) (n : Byte) : FormWf.Statement (.subAtHLdN d n) :=
  FormWf.of_length _ 4 rfl rfl rfl
theorem FormWf.subAtPCAN (n : Byte) : FormWf.Statement (.subAtPCAN n) :=
  FormWf.of_length _ 3 rfl rfl rfl
theorem FormWf.subRRAtX (rr : Reg16) (x : Byte) : FormWf.Statement (.subRRAtX rr x) :=
  FormWf.of_length _ 3 rfl rfl rfl
theorem FormWf.subRRAtVW (rr : Reg16) (addr : Word) : FormWf.Statement (.subRRAtVW rr addr) :=
  FormWf.of_length _ 4 rfl rfl rfl
theorem FormWf.subRRAtDE (rr : Reg16) : FormWf.Statement (.subRRAtDE rr) :=
  FormWf.of_length _ 2 rfl rfl rfl
theorem FormWf.subRRAtHL (rr : Reg16) : FormWf.Statement (.subRRAtHL rr) :=
  FormWf.of_length _ 2 rfl rfl rfl
theorem FormWf.subRRAtIX (rr : Reg16) : FormWf.Statement (.subRRAtIX rr) :=
  FormWf.of_length _ 2 rfl rfl rfl
theorem FormWf.subRRAtIY (rr : Reg16) : FormWf.Statement (.subRRAtIY rr) :=
  FormWf.of_length _ 2 rfl rfl rfl
theorem FormWf.subRRAtIncSP (rr : Reg16) : FormWf.Statement (.subRRAtIncSP rr) :=
  FormWf.of_length _ 2 rfl rfl rfl
theorem FormWf.subRRAtHLC (rr : Reg16) : FormWf.Statement (.subRRAtHLC rr) :=
  FormWf.of_length _ 2 rfl rfl rfl
theorem FormWf.subRRAtIXd (rr : Reg16) (d : Byte) : FormWf.Statement (.subRRAtIXd rr d) :=
  FormWf.of_length _ 3 rfl rfl rfl
theorem FormWf.subRRAtIYd (rr : Reg16) (d : Byte) : FormWf.Statement (.subRRAtIYd rr d) :=
  FormWf.of_length _ 3 rfl rfl rfl
theorem FormWf.subRRAtSPd (rr : Reg16) (d : Byte) : FormWf.Statement (.subRRAtSPd rr d) :=
  FormWf.of_length _ 3 rfl rfl rfl
theorem FormWf.subRRAtHLd (rr : Reg16) (d : Byte) : FormWf.Statement (.subRRAtHLd rr d) :=
  FormWf.of_length _ 3 rfl rfl rfl
theorem FormWf.subRRAtPCA (rr : Reg16) : FormWf.Statement (.subRRAtPCA rr) :=
  FormWf.of_length _ 2 rfl rfl rfl
theorem FormWf.andRAtX (r : Reg8) (x : Byte) : FormWf.Statement (.andRAtX r x) :=
  FormWf.of_length _ 3 rfl rfl rfl
theorem FormWf.andRAtVW (r : Reg8) (addr : Word) : FormWf.Statement (.andRAtVW r addr) :=
  FormWf.of_length _ 4 rfl rfl rfl
theorem FormWf.andRAtDE (r : Reg8) : FormWf.Statement (.andRAtDE r) :=
  FormWf.of_length _ 2 rfl rfl rfl
theorem FormWf.andRAtHL (r : Reg8) : FormWf.Statement (.andRAtHL r) :=
  FormWf.of_length _ 2 rfl rfl rfl
theorem FormWf.andRAtIX (r : Reg8) : FormWf.Statement (.andRAtIX r) :=
  FormWf.of_length _ 2 rfl rfl rfl
theorem FormWf.andRAtIY (r : Reg8) : FormWf.Statement (.andRAtIY r) :=
  FormWf.of_length _ 2 rfl rfl rfl
theorem FormWf.andRAtIncSP (r : Reg8) : FormWf.Statement (.andRAtIncSP r) :=
  FormWf.of_length _ 2 rfl rfl rfl
theorem FormWf.andRAtHLC (r : Reg8) : FormWf.Statement (.andRAtHLC r) :=
  FormWf.of_length _ 2 rfl rfl rfl
theorem FormWf.andRAtIXd (r : Reg8) (d : Byte) : FormWf.Statement (.andRAtIXd r d) :=
  FormWf.of_length _ 3 rfl rfl rfl
theorem FormWf.andRAtIYd (r : Reg8) (d : Byte) : FormWf.Statement (.andRAtIYd r d) :=
  FormWf.of_length _ 3 rfl rfl rfl
theorem FormWf.andRAtSPd (r : Reg8) (d : Byte) : FormWf.Statement (.andRAtSPd r d) :=
  FormWf.of_length _ 3 rfl rfl rfl
theorem FormWf.andRAtHLd (r : Reg8) (d : Byte) : FormWf.Statement (.andRAtHLd r d) :=
  FormWf.of_length _ 3 rfl rfl rfl
theorem FormWf.andRAtPCA (r : Reg8) : FormWf.Statement (.andRAtPCA r) :=
  FormWf.of_length _ 2 rfl rfl rfl
theorem FormWf.andAtXN (x : Byte) (n : Byte) : FormWf.Statement (.andAtXN x n) :=
  FormWf.of_length _ 4 rfl rfl rfl
theorem FormWf.andAtVWN (addr : Word) (n : Byte) : FormWf.Statement (.andAtVWN addr n) :=
  FormWf.of_length _ 5 rfl rfl rfl
theorem FormWf.andAtDEN (n : Byte) : FormWf.Statement (.andAtDEN n) :=
  FormWf.of_length _ 3 rfl rfl rfl
theorem FormWf.andAtHLN (n : Byte) : FormWf.Statement (.andAtHLN n) :=
  FormWf.of_length _ 3 rfl rfl rfl
theorem FormWf.andAtIXN (n : Byte) : FormWf.Statement (.andAtIXN n) :=
  FormWf.of_length _ 3 rfl rfl rfl
theorem FormWf.andAtIYN (n : Byte) : FormWf.Statement (.andAtIYN n) :=
  FormWf.of_length _ 3 rfl rfl rfl
theorem FormWf.andAtIncSPN (n : Byte) : FormWf.Statement (.andAtIncSPN n) :=
  FormWf.of_length _ 3 rfl rfl rfl
theorem FormWf.andAtHLCN (n : Byte) : FormWf.Statement (.andAtHLCN n) :=
  FormWf.of_length _ 3 rfl rfl rfl
theorem FormWf.andAtIXdN (d : Byte) (n : Byte) : FormWf.Statement (.andAtIXdN d n) :=
  FormWf.of_length _ 4 rfl rfl rfl
theorem FormWf.andAtIYdN (d : Byte) (n : Byte) : FormWf.Statement (.andAtIYdN d n) :=
  FormWf.of_length _ 4 rfl rfl rfl
theorem FormWf.andAtSPdN (d : Byte) (n : Byte) : FormWf.Statement (.andAtSPdN d n) :=
  FormWf.of_length _ 4 rfl rfl rfl
theorem FormWf.andAtHLdN (d : Byte) (n : Byte) : FormWf.Statement (.andAtHLdN d n) :=
  FormWf.of_length _ 4 rfl rfl rfl
theorem FormWf.andAtPCAN (n : Byte) : FormWf.Statement (.andAtPCAN n) :=
  FormWf.of_length _ 3 rfl rfl rfl
theorem FormWf.andRRAtX (rr : Reg16) (x : Byte) : FormWf.Statement (.andRRAtX rr x) :=
  FormWf.of_length _ 3 rfl rfl rfl
theorem FormWf.andRRAtVW (rr : Reg16) (addr : Word) : FormWf.Statement (.andRRAtVW rr addr) :=
  FormWf.of_length _ 4 rfl rfl rfl
theorem FormWf.andRRAtDE (rr : Reg16) : FormWf.Statement (.andRRAtDE rr) :=
  FormWf.of_length _ 2 rfl rfl rfl
theorem FormWf.andRRAtHL (rr : Reg16) : FormWf.Statement (.andRRAtHL rr) :=
  FormWf.of_length _ 2 rfl rfl rfl
theorem FormWf.andRRAtIX (rr : Reg16) : FormWf.Statement (.andRRAtIX rr) :=
  FormWf.of_length _ 2 rfl rfl rfl
theorem FormWf.andRRAtIY (rr : Reg16) : FormWf.Statement (.andRRAtIY rr) :=
  FormWf.of_length _ 2 rfl rfl rfl
theorem FormWf.andRRAtIncSP (rr : Reg16) : FormWf.Statement (.andRRAtIncSP rr) :=
  FormWf.of_length _ 2 rfl rfl rfl
theorem FormWf.andRRAtHLC (rr : Reg16) : FormWf.Statement (.andRRAtHLC rr) :=
  FormWf.of_length _ 2 rfl rfl rfl
theorem FormWf.andRRAtIXd (rr : Reg16) (d : Byte) : FormWf.Statement (.andRRAtIXd rr d) :=
  FormWf.of_length _ 3 rfl rfl rfl
theorem FormWf.andRRAtIYd (rr : Reg16) (d : Byte) : FormWf.Statement (.andRRAtIYd rr d) :=
  FormWf.of_length _ 3 rfl rfl rfl
theorem FormWf.andRRAtSPd (rr : Reg16) (d : Byte) : FormWf.Statement (.andRRAtSPd rr d) :=
  FormWf.of_length _ 3 rfl rfl rfl
theorem FormWf.andRRAtHLd (rr : Reg16) (d : Byte) : FormWf.Statement (.andRRAtHLd rr d) :=
  FormWf.of_length _ 3 rfl rfl rfl
theorem FormWf.andRRAtPCA (rr : Reg16) : FormWf.Statement (.andRRAtPCA rr) :=
  FormWf.of_length _ 2 rfl rfl rfl
theorem FormWf.xorRAtX (r : Reg8) (x : Byte) : FormWf.Statement (.xorRAtX r x) :=
  FormWf.of_length _ 3 rfl rfl rfl
theorem FormWf.xorRAtVW (r : Reg8) (addr : Word) : FormWf.Statement (.xorRAtVW r addr) :=
  FormWf.of_length _ 4 rfl rfl rfl
theorem FormWf.xorRAtDE (r : Reg8) : FormWf.Statement (.xorRAtDE r) :=
  FormWf.of_length _ 2 rfl rfl rfl
theorem FormWf.xorRAtHL (r : Reg8) : FormWf.Statement (.xorRAtHL r) :=
  FormWf.of_length _ 2 rfl rfl rfl
theorem FormWf.xorRAtIX (r : Reg8) : FormWf.Statement (.xorRAtIX r) :=
  FormWf.of_length _ 2 rfl rfl rfl
theorem FormWf.xorRAtIY (r : Reg8) : FormWf.Statement (.xorRAtIY r) :=
  FormWf.of_length _ 2 rfl rfl rfl
theorem FormWf.xorRAtIncSP (r : Reg8) : FormWf.Statement (.xorRAtIncSP r) :=
  FormWf.of_length _ 2 rfl rfl rfl
theorem FormWf.xorRAtHLC (r : Reg8) : FormWf.Statement (.xorRAtHLC r) :=
  FormWf.of_length _ 2 rfl rfl rfl
theorem FormWf.xorRAtIXd (r : Reg8) (d : Byte) : FormWf.Statement (.xorRAtIXd r d) :=
  FormWf.of_length _ 3 rfl rfl rfl
theorem FormWf.xorRAtIYd (r : Reg8) (d : Byte) : FormWf.Statement (.xorRAtIYd r d) :=
  FormWf.of_length _ 3 rfl rfl rfl
theorem FormWf.xorRAtSPd (r : Reg8) (d : Byte) : FormWf.Statement (.xorRAtSPd r d) :=
  FormWf.of_length _ 3 rfl rfl rfl
theorem FormWf.xorRAtHLd (r : Reg8) (d : Byte) : FormWf.Statement (.xorRAtHLd r d) :=
  FormWf.of_length _ 3 rfl rfl rfl
theorem FormWf.xorRAtPCA (r : Reg8) : FormWf.Statement (.xorRAtPCA r) :=
  FormWf.of_length _ 2 rfl rfl rfl
theorem FormWf.xorAtXN (x : Byte) (n : Byte) : FormWf.Statement (.xorAtXN x n) :=
  FormWf.of_length _ 4 rfl rfl rfl
theorem FormWf.xorAtVWN (addr : Word) (n : Byte) : FormWf.Statement (.xorAtVWN addr n) :=
  FormWf.of_length _ 5 rfl rfl rfl
theorem FormWf.xorAtDEN (n : Byte) : FormWf.Statement (.xorAtDEN n) :=
  FormWf.of_length _ 3 rfl rfl rfl
theorem FormWf.xorAtHLN (n : Byte) : FormWf.Statement (.xorAtHLN n) :=
  FormWf.of_length _ 3 rfl rfl rfl
theorem FormWf.xorAtIXN (n : Byte) : FormWf.Statement (.xorAtIXN n) :=
  FormWf.of_length _ 3 rfl rfl rfl
theorem FormWf.xorAtIYN (n : Byte) : FormWf.Statement (.xorAtIYN n) :=
  FormWf.of_length _ 3 rfl rfl rfl
theorem FormWf.xorAtIncSPN (n : Byte) : FormWf.Statement (.xorAtIncSPN n) :=
  FormWf.of_length _ 3 rfl rfl rfl
theorem FormWf.xorAtHLCN (n : Byte) : FormWf.Statement (.xorAtHLCN n) :=
  FormWf.of_length _ 3 rfl rfl rfl
theorem FormWf.xorAtIXdN (d : Byte) (n : Byte) : FormWf.Statement (.xorAtIXdN d n) :=
  FormWf.of_length _ 4 rfl rfl rfl
theorem FormWf.xorAtIYdN (d : Byte) (n : Byte) : FormWf.Statement (.xorAtIYdN d n) :=
  FormWf.of_length _ 4 rfl rfl rfl
theorem FormWf.xorAtSPdN (d : Byte) (n : Byte) : FormWf.Statement (.xorAtSPdN d n) :=
  FormWf.of_length _ 4 rfl rfl rfl
theorem FormWf.xorAtHLdN (d : Byte) (n : Byte) : FormWf.Statement (.xorAtHLdN d n) :=
  FormWf.of_length _ 4 rfl rfl rfl
theorem FormWf.xorAtPCAN (n : Byte) : FormWf.Statement (.xorAtPCAN n) :=
  FormWf.of_length _ 3 rfl rfl rfl
theorem FormWf.xorRRAtX (rr : Reg16) (x : Byte) : FormWf.Statement (.xorRRAtX rr x) :=
  FormWf.of_length _ 3 rfl rfl rfl
theorem FormWf.xorRRAtVW (rr : Reg16) (addr : Word) : FormWf.Statement (.xorRRAtVW rr addr) :=
  FormWf.of_length _ 4 rfl rfl rfl
theorem FormWf.xorRRAtDE (rr : Reg16) : FormWf.Statement (.xorRRAtDE rr) :=
  FormWf.of_length _ 2 rfl rfl rfl
theorem FormWf.xorRRAtHL (rr : Reg16) : FormWf.Statement (.xorRRAtHL rr) :=
  FormWf.of_length _ 2 rfl rfl rfl
theorem FormWf.xorRRAtIX (rr : Reg16) : FormWf.Statement (.xorRRAtIX rr) :=
  FormWf.of_length _ 2 rfl rfl rfl
theorem FormWf.xorRRAtIY (rr : Reg16) : FormWf.Statement (.xorRRAtIY rr) :=
  FormWf.of_length _ 2 rfl rfl rfl
theorem FormWf.xorRRAtIncSP (rr : Reg16) : FormWf.Statement (.xorRRAtIncSP rr) :=
  FormWf.of_length _ 2 rfl rfl rfl
theorem FormWf.xorRRAtHLC (rr : Reg16) : FormWf.Statement (.xorRRAtHLC rr) :=
  FormWf.of_length _ 2 rfl rfl rfl
theorem FormWf.xorRRAtIXd (rr : Reg16) (d : Byte) : FormWf.Statement (.xorRRAtIXd rr d) :=
  FormWf.of_length _ 3 rfl rfl rfl
theorem FormWf.xorRRAtIYd (rr : Reg16) (d : Byte) : FormWf.Statement (.xorRRAtIYd rr d) :=
  FormWf.of_length _ 3 rfl rfl rfl
theorem FormWf.xorRRAtSPd (rr : Reg16) (d : Byte) : FormWf.Statement (.xorRRAtSPd rr d) :=
  FormWf.of_length _ 3 rfl rfl rfl
theorem FormWf.xorRRAtHLd (rr : Reg16) (d : Byte) : FormWf.Statement (.xorRRAtHLd rr d) :=
  FormWf.of_length _ 3 rfl rfl rfl
theorem FormWf.xorRRAtPCA (rr : Reg16) : FormWf.Statement (.xorRRAtPCA rr) :=
  FormWf.of_length _ 2 rfl rfl rfl
theorem FormWf.orRAtX (r : Reg8) (x : Byte) : FormWf.Statement (.orRAtX r x) :=
  FormWf.of_length _ 3 rfl rfl rfl
theorem FormWf.orRAtVW (r : Reg8) (addr : Word) : FormWf.Statement (.orRAtVW r addr) :=
  FormWf.of_length _ 4 rfl rfl rfl
theorem FormWf.orRAtDE (r : Reg8) : FormWf.Statement (.orRAtDE r) :=
  FormWf.of_length _ 2 rfl rfl rfl
theorem FormWf.orRAtHL (r : Reg8) : FormWf.Statement (.orRAtHL r) :=
  FormWf.of_length _ 2 rfl rfl rfl
theorem FormWf.orRAtIX (r : Reg8) : FormWf.Statement (.orRAtIX r) :=
  FormWf.of_length _ 2 rfl rfl rfl
theorem FormWf.orRAtIY (r : Reg8) : FormWf.Statement (.orRAtIY r) :=
  FormWf.of_length _ 2 rfl rfl rfl
theorem FormWf.orRAtIncSP (r : Reg8) : FormWf.Statement (.orRAtIncSP r) :=
  FormWf.of_length _ 2 rfl rfl rfl
theorem FormWf.orRAtHLC (r : Reg8) : FormWf.Statement (.orRAtHLC r) :=
  FormWf.of_length _ 2 rfl rfl rfl
theorem FormWf.orRAtIXd (r : Reg8) (d : Byte) : FormWf.Statement (.orRAtIXd r d) :=
  FormWf.of_length _ 3 rfl rfl rfl
theorem FormWf.orRAtIYd (r : Reg8) (d : Byte) : FormWf.Statement (.orRAtIYd r d) :=
  FormWf.of_length _ 3 rfl rfl rfl
theorem FormWf.orRAtSPd (r : Reg8) (d : Byte) : FormWf.Statement (.orRAtSPd r d) :=
  FormWf.of_length _ 3 rfl rfl rfl
theorem FormWf.orRAtHLd (r : Reg8) (d : Byte) : FormWf.Statement (.orRAtHLd r d) :=
  FormWf.of_length _ 3 rfl rfl rfl
theorem FormWf.orRAtPCA (r : Reg8) : FormWf.Statement (.orRAtPCA r) :=
  FormWf.of_length _ 2 rfl rfl rfl
theorem FormWf.orAtXN (x : Byte) (n : Byte) : FormWf.Statement (.orAtXN x n) :=
  FormWf.of_length _ 4 rfl rfl rfl
theorem FormWf.orAtVWN (addr : Word) (n : Byte) : FormWf.Statement (.orAtVWN addr n) :=
  FormWf.of_length _ 5 rfl rfl rfl
theorem FormWf.orAtDEN (n : Byte) : FormWf.Statement (.orAtDEN n) :=
  FormWf.of_length _ 3 rfl rfl rfl
theorem FormWf.orAtHLN (n : Byte) : FormWf.Statement (.orAtHLN n) :=
  FormWf.of_length _ 3 rfl rfl rfl
theorem FormWf.orAtIXN (n : Byte) : FormWf.Statement (.orAtIXN n) :=
  FormWf.of_length _ 3 rfl rfl rfl
theorem FormWf.orAtIYN (n : Byte) : FormWf.Statement (.orAtIYN n) :=
  FormWf.of_length _ 3 rfl rfl rfl
theorem FormWf.orAtIncSPN (n : Byte) : FormWf.Statement (.orAtIncSPN n) :=
  FormWf.of_length _ 3 rfl rfl rfl
theorem FormWf.orAtHLCN (n : Byte) : FormWf.Statement (.orAtHLCN n) :=
  FormWf.of_length _ 3 rfl rfl rfl
theorem FormWf.orAtIXdN (d : Byte) (n : Byte) : FormWf.Statement (.orAtIXdN d n) :=
  FormWf.of_length _ 4 rfl rfl rfl
theorem FormWf.orAtIYdN (d : Byte) (n : Byte) : FormWf.Statement (.orAtIYdN d n) :=
  FormWf.of_length _ 4 rfl rfl rfl
theorem FormWf.orAtSPdN (d : Byte) (n : Byte) : FormWf.Statement (.orAtSPdN d n) :=
  FormWf.of_length _ 4 rfl rfl rfl
theorem FormWf.orAtHLdN (d : Byte) (n : Byte) : FormWf.Statement (.orAtHLdN d n) :=
  FormWf.of_length _ 4 rfl rfl rfl
theorem FormWf.orAtPCAN (n : Byte) : FormWf.Statement (.orAtPCAN n) :=
  FormWf.of_length _ 3 rfl rfl rfl
theorem FormWf.orRRAtX (rr : Reg16) (x : Byte) : FormWf.Statement (.orRRAtX rr x) :=
  FormWf.of_length _ 3 rfl rfl rfl
theorem FormWf.orRRAtVW (rr : Reg16) (addr : Word) : FormWf.Statement (.orRRAtVW rr addr) :=
  FormWf.of_length _ 4 rfl rfl rfl
theorem FormWf.orRRAtDE (rr : Reg16) : FormWf.Statement (.orRRAtDE rr) :=
  FormWf.of_length _ 2 rfl rfl rfl
theorem FormWf.orRRAtHL (rr : Reg16) : FormWf.Statement (.orRRAtHL rr) :=
  FormWf.of_length _ 2 rfl rfl rfl
theorem FormWf.orRRAtIX (rr : Reg16) : FormWf.Statement (.orRRAtIX rr) :=
  FormWf.of_length _ 2 rfl rfl rfl
theorem FormWf.orRRAtIY (rr : Reg16) : FormWf.Statement (.orRRAtIY rr) :=
  FormWf.of_length _ 2 rfl rfl rfl
theorem FormWf.orRRAtIncSP (rr : Reg16) : FormWf.Statement (.orRRAtIncSP rr) :=
  FormWf.of_length _ 2 rfl rfl rfl
theorem FormWf.orRRAtHLC (rr : Reg16) : FormWf.Statement (.orRRAtHLC rr) :=
  FormWf.of_length _ 2 rfl rfl rfl
theorem FormWf.orRRAtIXd (rr : Reg16) (d : Byte) : FormWf.Statement (.orRRAtIXd rr d) :=
  FormWf.of_length _ 3 rfl rfl rfl
theorem FormWf.orRRAtIYd (rr : Reg16) (d : Byte) : FormWf.Statement (.orRRAtIYd rr d) :=
  FormWf.of_length _ 3 rfl rfl rfl
theorem FormWf.orRRAtSPd (rr : Reg16) (d : Byte) : FormWf.Statement (.orRRAtSPd rr d) :=
  FormWf.of_length _ 3 rfl rfl rfl
theorem FormWf.orRRAtHLd (rr : Reg16) (d : Byte) : FormWf.Statement (.orRRAtHLd rr d) :=
  FormWf.of_length _ 3 rfl rfl rfl
theorem FormWf.orRRAtPCA (rr : Reg16) : FormWf.Statement (.orRRAtPCA rr) :=
  FormWf.of_length _ 2 rfl rfl rfl
theorem FormWf.cmpRAtX (r : Reg8) (x : Byte) : FormWf.Statement (.cmpRAtX r x) :=
  FormWf.of_length _ 3 rfl rfl rfl
theorem FormWf.cmpRAtVW (r : Reg8) (addr : Word) : FormWf.Statement (.cmpRAtVW r addr) :=
  FormWf.of_length _ 4 rfl rfl rfl
theorem FormWf.cmpRAtDE (r : Reg8) : FormWf.Statement (.cmpRAtDE r) :=
  FormWf.of_length _ 2 rfl rfl rfl
theorem FormWf.cmpRAtHL (r : Reg8) : FormWf.Statement (.cmpRAtHL r) :=
  FormWf.of_length _ 2 rfl rfl rfl
theorem FormWf.cmpRAtIX (r : Reg8) : FormWf.Statement (.cmpRAtIX r) :=
  FormWf.of_length _ 2 rfl rfl rfl
theorem FormWf.cmpRAtIY (r : Reg8) : FormWf.Statement (.cmpRAtIY r) :=
  FormWf.of_length _ 2 rfl rfl rfl
theorem FormWf.cmpRAtIncSP (r : Reg8) : FormWf.Statement (.cmpRAtIncSP r) :=
  FormWf.of_length _ 2 rfl rfl rfl
theorem FormWf.cmpRAtHLC (r : Reg8) : FormWf.Statement (.cmpRAtHLC r) :=
  FormWf.of_length _ 2 rfl rfl rfl
theorem FormWf.cmpRAtIXd (r : Reg8) (d : Byte) : FormWf.Statement (.cmpRAtIXd r d) :=
  FormWf.of_length _ 3 rfl rfl rfl
theorem FormWf.cmpRAtIYd (r : Reg8) (d : Byte) : FormWf.Statement (.cmpRAtIYd r d) :=
  FormWf.of_length _ 3 rfl rfl rfl
theorem FormWf.cmpRAtSPd (r : Reg8) (d : Byte) : FormWf.Statement (.cmpRAtSPd r d) :=
  FormWf.of_length _ 3 rfl rfl rfl
theorem FormWf.cmpRAtHLd (r : Reg8) (d : Byte) : FormWf.Statement (.cmpRAtHLd r d) :=
  FormWf.of_length _ 3 rfl rfl rfl
theorem FormWf.cmpRAtPCA (r : Reg8) : FormWf.Statement (.cmpRAtPCA r) :=
  FormWf.of_length _ 2 rfl rfl rfl
theorem FormWf.cmpAtXNLong (x : Byte) (n : Byte) : FormWf.Statement (.cmpAtXNLong x n) :=
  FormWf.of_length _ 4 rfl rfl rfl
theorem FormWf.cmpAtVWN (addr : Word) (n : Byte) : FormWf.Statement (.cmpAtVWN addr n) :=
  FormWf.of_length _ 5 rfl rfl rfl
theorem FormWf.cmpAtDEN (n : Byte) : FormWf.Statement (.cmpAtDEN n) :=
  FormWf.of_length _ 3 rfl rfl rfl
theorem FormWf.cmpAtHLN (n : Byte) : FormWf.Statement (.cmpAtHLN n) :=
  FormWf.of_length _ 3 rfl rfl rfl
theorem FormWf.cmpAtIXN (n : Byte) : FormWf.Statement (.cmpAtIXN n) :=
  FormWf.of_length _ 3 rfl rfl rfl
theorem FormWf.cmpAtIYN (n : Byte) : FormWf.Statement (.cmpAtIYN n) :=
  FormWf.of_length _ 3 rfl rfl rfl
theorem FormWf.cmpAtIncSPN (n : Byte) : FormWf.Statement (.cmpAtIncSPN n) :=
  FormWf.of_length _ 3 rfl rfl rfl
theorem FormWf.cmpAtHLCN (n : Byte) : FormWf.Statement (.cmpAtHLCN n) :=
  FormWf.of_length _ 3 rfl rfl rfl
theorem FormWf.cmpAtIXdN (d : Byte) (n : Byte) : FormWf.Statement (.cmpAtIXdN d n) :=
  FormWf.of_length _ 4 rfl rfl rfl
theorem FormWf.cmpAtIYdN (d : Byte) (n : Byte) : FormWf.Statement (.cmpAtIYdN d n) :=
  FormWf.of_length _ 4 rfl rfl rfl
theorem FormWf.cmpAtSPdN (d : Byte) (n : Byte) : FormWf.Statement (.cmpAtSPdN d n) :=
  FormWf.of_length _ 4 rfl rfl rfl
theorem FormWf.cmpAtHLdN (d : Byte) (n : Byte) : FormWf.Statement (.cmpAtHLdN d n) :=
  FormWf.of_length _ 4 rfl rfl rfl
theorem FormWf.cmpAtPCAN (n : Byte) : FormWf.Statement (.cmpAtPCAN n) :=
  FormWf.of_length _ 3 rfl rfl rfl
theorem FormWf.cmpRRAtX (rr : Reg16) (x : Byte) : FormWf.Statement (.cmpRRAtX rr x) :=
  FormWf.of_length _ 3 rfl rfl rfl
theorem FormWf.cmpRRAtVW (rr : Reg16) (addr : Word) : FormWf.Statement (.cmpRRAtVW rr addr) :=
  FormWf.of_length _ 4 rfl rfl rfl
theorem FormWf.cmpRRAtDE (rr : Reg16) : FormWf.Statement (.cmpRRAtDE rr) :=
  FormWf.of_length _ 2 rfl rfl rfl
theorem FormWf.cmpRRAtHL (rr : Reg16) : FormWf.Statement (.cmpRRAtHL rr) :=
  FormWf.of_length _ 2 rfl rfl rfl
theorem FormWf.cmpRRAtIX (rr : Reg16) : FormWf.Statement (.cmpRRAtIX rr) :=
  FormWf.of_length _ 2 rfl rfl rfl
theorem FormWf.cmpRRAtIY (rr : Reg16) : FormWf.Statement (.cmpRRAtIY rr) :=
  FormWf.of_length _ 2 rfl rfl rfl
theorem FormWf.cmpRRAtIncSP (rr : Reg16) : FormWf.Statement (.cmpRRAtIncSP rr) :=
  FormWf.of_length _ 2 rfl rfl rfl
theorem FormWf.cmpRRAtHLC (rr : Reg16) : FormWf.Statement (.cmpRRAtHLC rr) :=
  FormWf.of_length _ 2 rfl rfl rfl
theorem FormWf.cmpRRAtIXd (rr : Reg16) (d : Byte) : FormWf.Statement (.cmpRRAtIXd rr d) :=
  FormWf.of_length _ 3 rfl rfl rfl
theorem FormWf.cmpRRAtIYd (rr : Reg16) (d : Byte) : FormWf.Statement (.cmpRRAtIYd rr d) :=
  FormWf.of_length _ 3 rfl rfl rfl
theorem FormWf.cmpRRAtSPd (rr : Reg16) (d : Byte) : FormWf.Statement (.cmpRRAtSPd rr d) :=
  FormWf.of_length _ 3 rfl rfl rfl
theorem FormWf.cmpRRAtHLd (rr : Reg16) (d : Byte) : FormWf.Statement (.cmpRRAtHLd rr d) :=
  FormWf.of_length _ 3 rfl rfl rfl
theorem FormWf.cmpRRAtPCA (rr : Reg16) : FormWf.Statement (.cmpRRAtPCA rr) :=
  FormWf.of_length _ 2 rfl rfl rfl
theorem FormWf.ldRAtX (r : Reg8) (x : Byte) : FormWf.Statement (.ldRAtX r x) :=
  FormWf.of_length _ 3 rfl rfl rfl
theorem FormWf.ldRAtVW (r : Reg8) (addr : Word) : FormWf.Statement (.ldRAtVW r addr) :=
  FormWf.of_length _ 4 rfl rfl rfl
theorem FormWf.ldRAtDE (r : Reg8) : FormWf.Statement (.ldRAtDE r) :=
  FormWf.of_length _ 2 rfl rfl rfl
theorem FormWf.ldRAtHL (r : Reg8) : FormWf.Statement (.ldRAtHL r) :=
  FormWf.of_length _ 2 rfl rfl rfl
theorem FormWf.ldRAtIX (r : Reg8) : FormWf.Statement (.ldRAtIX r) :=
  FormWf.of_length _ 2 rfl rfl rfl
theorem FormWf.ldRAtIY (r : Reg8) : FormWf.Statement (.ldRAtIY r) :=
  FormWf.of_length _ 2 rfl rfl rfl
theorem FormWf.ldRAtIncSP (r : Reg8) : FormWf.Statement (.ldRAtIncSP r) :=
  FormWf.of_length _ 2 rfl rfl rfl
theorem FormWf.ldRAtHLC (r : Reg8) : FormWf.Statement (.ldRAtHLC r) :=
  FormWf.of_length _ 2 rfl rfl rfl
theorem FormWf.ldRAtIXd (r : Reg8) (d : Byte) : FormWf.Statement (.ldRAtIXd r d) :=
  FormWf.of_length _ 3 rfl rfl rfl
theorem FormWf.ldRAtIYd (r : Reg8) (d : Byte) : FormWf.Statement (.ldRAtIYd r d) :=
  FormWf.of_length _ 3 rfl rfl rfl
theorem FormWf.ldRAtSPd (r : Reg8) (d : Byte) : FormWf.Statement (.ldRAtSPd r d) :=
  FormWf.of_length _ 3 rfl rfl rfl
theorem FormWf.ldRAtHLd (r : Reg8) (d : Byte) : FormWf.Statement (.ldRAtHLd r d) :=
  FormWf.of_length _ 3 rfl rfl rfl
theorem FormWf.ldRAtPCA (r : Reg8) : FormWf.Statement (.ldRAtPCA r) :=
  FormWf.of_length _ 2 rfl rfl rfl
theorem FormWf.ldRRAtX (rr : Reg16) (x : Byte) : FormWf.Statement (.ldRRAtX rr x) :=
  FormWf.of_length _ 3 rfl rfl rfl
theorem FormWf.ldRRAtVW (rr : Reg16) (addr : Word) : FormWf.Statement (.ldRRAtVW rr addr) :=
  FormWf.of_length _ 4 rfl rfl rfl
theorem FormWf.ldRRAtDE (rr : Reg16) : FormWf.Statement (.ldRRAtDE rr) :=
  FormWf.of_length _ 2 rfl rfl rfl
theorem FormWf.ldRRAtHL (rr : Reg16) : FormWf.Statement (.ldRRAtHL rr) :=
  FormWf.of_length _ 2 rfl rfl rfl
theorem FormWf.ldRRAtIX (rr : Reg16) : FormWf.Statement (.ldRRAtIX rr) :=
  FormWf.of_length _ 2 rfl rfl rfl
theorem FormWf.ldRRAtIY (rr : Reg16) : FormWf.Statement (.ldRRAtIY rr) :=
  FormWf.of_length _ 2 rfl rfl rfl
theorem FormWf.ldRRAtIncSP (rr : Reg16) : FormWf.Statement (.ldRRAtIncSP rr) :=
  FormWf.of_length _ 2 rfl rfl rfl
theorem FormWf.ldRRAtHLC (rr : Reg16) : FormWf.Statement (.ldRRAtHLC rr) :=
  FormWf.of_length _ 2 rfl rfl rfl
theorem FormWf.ldRRAtIXd (rr : Reg16) (d : Byte) : FormWf.Statement (.ldRRAtIXd rr d) :=
  FormWf.of_length _ 3 rfl rfl rfl
theorem FormWf.ldRRAtIYd (rr : Reg16) (d : Byte) : FormWf.Statement (.ldRRAtIYd rr d) :=
  FormWf.of_length _ 3 rfl rfl rfl
theorem FormWf.ldRRAtSPd (rr : Reg16) (d : Byte) : FormWf.Statement (.ldRRAtSPd rr d) :=
  FormWf.of_length _ 3 rfl rfl rfl
theorem FormWf.ldRRAtHLd (rr : Reg16) (d : Byte) : FormWf.Statement (.ldRRAtHLd rr d) :=
  FormWf.of_length _ 3 rfl rfl rfl
theorem FormWf.ldRRAtPCA (rr : Reg16) : FormWf.Statement (.ldRRAtPCA rr) :=
  FormWf.of_length _ 2 rfl rfl rfl
theorem FormWf.xorCFAtXb (x : Byte) (b : BitNo) : FormWf.Statement (.xorCFAtXb x b) :=
  FormWf.of_length _ 3 rfl rfl rfl
theorem FormWf.xorCFAtVWb (addr : Word) (b : BitNo) : FormWf.Statement (.xorCFAtVWb addr b) :=
  FormWf.of_length _ 4 rfl rfl rfl
theorem FormWf.xorCFAtDEb (b : BitNo) : FormWf.Statement (.xorCFAtDEb b) :=
  FormWf.of_length _ 2 rfl rfl rfl
theorem FormWf.xorCFAtHLb (b : BitNo) : FormWf.Statement (.xorCFAtHLb b) :=
  FormWf.of_length _ 2 rfl rfl rfl
theorem FormWf.xorCFAtIXb (b : BitNo) : FormWf.Statement (.xorCFAtIXb b) :=
  FormWf.of_length _ 2 rfl rfl rfl
theorem FormWf.xorCFAtIYb (b : BitNo) : FormWf.Statement (.xorCFAtIYb b) :=
  FormWf.of_length _ 2 rfl rfl rfl
theorem FormWf.xorCFAtIncSPb (b : BitNo) : FormWf.Statement (.xorCFAtIncSPb b) :=
  FormWf.of_length _ 2 rfl rfl rfl
theorem FormWf.xorCFAtHLCb (b : BitNo) : FormWf.Statement (.xorCFAtHLCb b) :=
  FormWf.of_length _ 2 rfl rfl rfl
theorem FormWf.xorCFAtIXdb (d : Byte) (b : BitNo) : FormWf.Statement (.xorCFAtIXdb d b) :=
  FormWf.of_length _ 3 rfl rfl rfl
theorem FormWf.xorCFAtIYdb (d : Byte) (b : BitNo) : FormWf.Statement (.xorCFAtIYdb d b) :=
  FormWf.of_length _ 3 rfl rfl rfl
theorem FormWf.xorCFAtSPdb (d : Byte) (b : BitNo) : FormWf.Statement (.xorCFAtSPdb d b) :=
  FormWf.of_length _ 3 rfl rfl rfl
theorem FormWf.xorCFAtHLdb (d : Byte) (b : BitNo) : FormWf.Statement (.xorCFAtHLdb d b) :=
  FormWf.of_length _ 3 rfl rfl rfl
theorem FormWf.xorCFAtPCAb (b : BitNo) : FormWf.Statement (.xorCFAtPCAb b) :=
  FormWf.of_length _ 2 rfl rfl rfl
theorem FormWf.ldCFAtXbLong (x : Byte) (b : BitNo) : FormWf.Statement (.ldCFAtXbLong x b) :=
  FormWf.of_length _ 3 rfl rfl rfl
theorem FormWf.ldCFAtVWb (addr : Word) (b : BitNo) : FormWf.Statement (.ldCFAtVWb addr b) :=
  FormWf.of_length _ 4 rfl rfl rfl
theorem FormWf.ldCFAtDEb (b : BitNo) : FormWf.Statement (.ldCFAtDEb b) :=
  FormWf.of_length _ 2 rfl rfl rfl
theorem FormWf.ldCFAtHLb (b : BitNo) : FormWf.Statement (.ldCFAtHLb b) :=
  FormWf.of_length _ 2 rfl rfl rfl
theorem FormWf.ldCFAtIXb (b : BitNo) : FormWf.Statement (.ldCFAtIXb b) :=
  FormWf.of_length _ 2 rfl rfl rfl
theorem FormWf.ldCFAtIYb (b : BitNo) : FormWf.Statement (.ldCFAtIYb b) :=
  FormWf.of_length _ 2 rfl rfl rfl
theorem FormWf.ldCFAtIncSPb (b : BitNo) : FormWf.Statement (.ldCFAtIncSPb b) :=
  FormWf.of_length _ 2 rfl rfl rfl
theorem FormWf.ldCFAtHLCb (b : BitNo) : FormWf.Statement (.ldCFAtHLCb b) :=
  FormWf.of_length _ 2 rfl rfl rfl
theorem FormWf.ldCFAtIXdb (d : Byte) (b : BitNo) : FormWf.Statement (.ldCFAtIXdb d b) :=
  FormWf.of_length _ 3 rfl rfl rfl
theorem FormWf.ldCFAtIYdb (d : Byte) (b : BitNo) : FormWf.Statement (.ldCFAtIYdb d b) :=
  FormWf.of_length _ 3 rfl rfl rfl
theorem FormWf.ldCFAtSPdb (d : Byte) (b : BitNo) : FormWf.Statement (.ldCFAtSPdb d b) :=
  FormWf.of_length _ 3 rfl rfl rfl
theorem FormWf.ldCFAtHLdb (d : Byte) (b : BitNo) : FormWf.Statement (.ldCFAtHLdb d b) :=
  FormWf.of_length _ 3 rfl rfl rfl
theorem FormWf.ldCFAtPCAb (b : BitNo) : FormWf.Statement (.ldCFAtPCAb b) :=
  FormWf.of_length _ 2 rfl rfl rfl
theorem FormWf.testAtXbLong (x : Byte) (b : BitNo) : FormWf.Statement (.testAtXbLong x b) :=
  FormWf.of_length _ 3 rfl rfl rfl
theorem FormWf.testAtVWb (addr : Word) (b : BitNo) : FormWf.Statement (.testAtVWb addr b) :=
  FormWf.of_length _ 4 rfl rfl rfl
theorem FormWf.testAtDEb (b : BitNo) : FormWf.Statement (.testAtDEb b) :=
  FormWf.of_length _ 2 rfl rfl rfl
theorem FormWf.testAtHLb (b : BitNo) : FormWf.Statement (.testAtHLb b) :=
  FormWf.of_length _ 2 rfl rfl rfl
theorem FormWf.testAtIXb (b : BitNo) : FormWf.Statement (.testAtIXb b) :=
  FormWf.of_length _ 2 rfl rfl rfl
theorem FormWf.testAtIYb (b : BitNo) : FormWf.Statement (.testAtIYb b) :=
  FormWf.of_length _ 2 rfl rfl rfl
theorem FormWf.testAtIncSPb (b : BitNo) : FormWf.Statement (.testAtIncSPb b) :=
  FormWf.of_length _ 2 rfl rfl rfl
theorem FormWf.testAtHLCb (b : BitNo) : FormWf.Statement (.testAtHLCb b) :=
  FormWf.of_length _ 2 rfl rfl rfl
theorem FormWf.testAtIXdb (d : Byte) (b : BitNo) : FormWf.Statement (.testAtIXdb d b) :=
  FormWf.of_length _ 3 rfl rfl rfl
theorem FormWf.testAtIYdb (d : Byte) (b : BitNo) : FormWf.Statement (.testAtIYdb d b) :=
  FormWf.of_length _ 3 rfl rfl rfl
theorem FormWf.testAtSPdb (d : Byte) (b : BitNo) : FormWf.Statement (.testAtSPdb d b) :=
  FormWf.of_length _ 3 rfl rfl rfl
theorem FormWf.testAtHLdb (d : Byte) (b : BitNo) : FormWf.Statement (.testAtHLdb d b) :=
  FormWf.of_length _ 3 rfl rfl rfl
theorem FormWf.testAtPCAb (b : BitNo) : FormWf.Statement (.testAtPCAb b) :=
  FormWf.of_length _ 2 rfl rfl rfl
theorem FormWf.xchRAtX (r : Reg8) (x : Byte) : FormWf.Statement (.xchRAtX r x) :=
  FormWf.of_length _ 3 rfl rfl rfl
theorem FormWf.xchRAtVW (r : Reg8) (addr : Word) : FormWf.Statement (.xchRAtVW r addr) :=
  FormWf.of_length _ 4 rfl rfl rfl
theorem FormWf.xchRAtDE (r : Reg8) : FormWf.Statement (.xchRAtDE r) :=
  FormWf.of_length _ 2 rfl rfl rfl
theorem FormWf.xchRAtHL (r : Reg8) : FormWf.Statement (.xchRAtHL r) :=
  FormWf.of_length _ 2 rfl rfl rfl
theorem FormWf.xchRAtIX (r : Reg8) : FormWf.Statement (.xchRAtIX r) :=
  FormWf.of_length _ 2 rfl rfl rfl
theorem FormWf.xchRAtIY (r : Reg8) : FormWf.Statement (.xchRAtIY r) :=
  FormWf.of_length _ 2 rfl rfl rfl
theorem FormWf.xchRAtIncSP (r : Reg8) : FormWf.Statement (.xchRAtIncSP r) :=
  FormWf.of_length _ 2 rfl rfl rfl
theorem FormWf.xchRAtHLC (r : Reg8) : FormWf.Statement (.xchRAtHLC r) :=
  FormWf.of_length _ 2 rfl rfl rfl
theorem FormWf.xchRAtIXd (r : Reg8) (d : Byte) : FormWf.Statement (.xchRAtIXd r d) :=
  FormWf.of_length _ 3 rfl rfl rfl
theorem FormWf.xchRAtIYd (r : Reg8) (d : Byte) : FormWf.Statement (.xchRAtIYd r d) :=
  FormWf.of_length _ 3 rfl rfl rfl
theorem FormWf.xchRAtSPd (r : Reg8) (d : Byte) : FormWf.Statement (.xchRAtSPd r d) :=
  FormWf.of_length _ 3 rfl rfl rfl
theorem FormWf.xchRAtHLd (r : Reg8) (d : Byte) : FormWf.Statement (.xchRAtHLd r d) :=
  FormWf.of_length _ 3 rfl rfl rfl
theorem FormWf.xchRAtPCA (r : Reg8) : FormWf.Statement (.xchRAtPCA r) :=
  FormWf.of_length _ 2 rfl rfl rfl
theorem FormWf.setAtXbLong (x : Byte) (b : BitNo) : FormWf.Statement (.setAtXbLong x b) :=
  FormWf.of_length _ 3 rfl rfl rfl
theorem FormWf.setAtVWb (addr : Word) (b : BitNo) : FormWf.Statement (.setAtVWb addr b) :=
  FormWf.of_length _ 4 rfl rfl rfl
theorem FormWf.setAtDEb (b : BitNo) : FormWf.Statement (.setAtDEb b) :=
  FormWf.of_length _ 2 rfl rfl rfl
theorem FormWf.setAtHLb (b : BitNo) : FormWf.Statement (.setAtHLb b) :=
  FormWf.of_length _ 2 rfl rfl rfl
theorem FormWf.setAtIXb (b : BitNo) : FormWf.Statement (.setAtIXb b) :=
  FormWf.of_length _ 2 rfl rfl rfl
theorem FormWf.setAtIYb (b : BitNo) : FormWf.Statement (.setAtIYb b) :=
  FormWf.of_length _ 2 rfl rfl rfl
theorem FormWf.setAtIncSPb (b : BitNo) : FormWf.Statement (.setAtIncSPb b) :=
  FormWf.of_length _ 2 rfl rfl rfl
theorem FormWf.setAtHLCb (b : BitNo) : FormWf.Statement (.setAtHLCb b) :=
  FormWf.of_length _ 2 rfl rfl rfl
theorem FormWf.setAtIXdb (d : Byte) (b : BitNo) : FormWf.Statement (.setAtIXdb d b) :=
  FormWf.of_length _ 3 rfl rfl rfl
theorem FormWf.setAtIYdb (d : Byte) (b : BitNo) : FormWf.Statement (.setAtIYdb d b) :=
  FormWf.of_length _ 3 rfl rfl rfl
theorem FormWf.setAtSPdb (d : Byte) (b : BitNo) : FormWf.Statement (.setAtSPdb d b) :=
  FormWf.of_length _ 3 rfl rfl rfl
theorem FormWf.setAtHLdb (d : Byte) (b : BitNo) : FormWf.Statement (.setAtHLdb d b) :=
  FormWf.of_length _ 3 rfl rfl rfl
theorem FormWf.setAtPCAb (b : BitNo) : FormWf.Statement (.setAtPCAb b) :=
  FormWf.of_length _ 2 rfl rfl rfl
theorem FormWf.clrAtXbLong (x : Byte) (b : BitNo) : FormWf.Statement (.clrAtXbLong x b) :=
  FormWf.of_length _ 3 rfl rfl rfl
theorem FormWf.clrAtVWb (addr : Word) (b : BitNo) : FormWf.Statement (.clrAtVWb addr b) :=
  FormWf.of_length _ 4 rfl rfl rfl
theorem FormWf.clrAtDEb (b : BitNo) : FormWf.Statement (.clrAtDEb b) :=
  FormWf.of_length _ 2 rfl rfl rfl
theorem FormWf.clrAtHLb (b : BitNo) : FormWf.Statement (.clrAtHLb b) :=
  FormWf.of_length _ 2 rfl rfl rfl
theorem FormWf.clrAtIXb (b : BitNo) : FormWf.Statement (.clrAtIXb b) :=
  FormWf.of_length _ 2 rfl rfl rfl
theorem FormWf.clrAtIYb (b : BitNo) : FormWf.Statement (.clrAtIYb b) :=
  FormWf.of_length _ 2 rfl rfl rfl
theorem FormWf.clrAtIncSPb (b : BitNo) : FormWf.Statement (.clrAtIncSPb b) :=
  FormWf.of_length _ 2 rfl rfl rfl
theorem FormWf.clrAtHLCb (b : BitNo) : FormWf.Statement (.clrAtHLCb b) :=
  FormWf.of_length _ 2 rfl rfl rfl
theorem FormWf.clrAtIXdb (d : Byte) (b : BitNo) : FormWf.Statement (.clrAtIXdb d b) :=
  FormWf.of_length _ 3 rfl rfl rfl
theorem FormWf.clrAtIYdb (d : Byte) (b : BitNo) : FormWf.Statement (.clrAtIYdb d b) :=
  FormWf.of_length _ 3 rfl rfl rfl
theorem FormWf.clrAtSPdb (d : Byte) (b : BitNo) : FormWf.Statement (.clrAtSPdb d b) :=
  FormWf.of_length _ 3 rfl rfl rfl
theorem FormWf.clrAtHLdb (d : Byte) (b : BitNo) : FormWf.Statement (.clrAtHLdb d b) :=
  FormWf.of_length _ 3 rfl rfl rfl
theorem FormWf.clrAtPCAb (b : BitNo) : FormWf.Statement (.clrAtPCAb b) :=
  FormWf.of_length _ 2 rfl rfl rfl
theorem FormWf.xchRRAtX (rr : Reg16) (x : Byte) : FormWf.Statement (.xchRRAtX rr x) :=
  FormWf.of_length _ 3 rfl rfl rfl
theorem FormWf.xchRRAtVW (rr : Reg16) (addr : Word) : FormWf.Statement (.xchRRAtVW rr addr) :=
  FormWf.of_length _ 4 rfl rfl rfl
theorem FormWf.xchRRAtDE (rr : Reg16) : FormWf.Statement (.xchRRAtDE rr) :=
  FormWf.of_length _ 2 rfl rfl rfl
theorem FormWf.xchRRAtHL (rr : Reg16) : FormWf.Statement (.xchRRAtHL rr) :=
  FormWf.of_length _ 2 rfl rfl rfl
theorem FormWf.xchRRAtIX (rr : Reg16) : FormWf.Statement (.xchRRAtIX rr) :=
  FormWf.of_length _ 2 rfl rfl rfl
theorem FormWf.xchRRAtIY (rr : Reg16) : FormWf.Statement (.xchRRAtIY rr) :=
  FormWf.of_length _ 2 rfl rfl rfl
theorem FormWf.xchRRAtIncSP (rr : Reg16) : FormWf.Statement (.xchRRAtIncSP rr) :=
  FormWf.of_length _ 2 rfl rfl rfl
theorem FormWf.xchRRAtHLC (rr : Reg16) : FormWf.Statement (.xchRRAtHLC rr) :=
  FormWf.of_length _ 2 rfl rfl rfl
theorem FormWf.xchRRAtIXd (rr : Reg16) (d : Byte) : FormWf.Statement (.xchRRAtIXd rr d) :=
  FormWf.of_length _ 3 rfl rfl rfl
theorem FormWf.xchRRAtIYd (rr : Reg16) (d : Byte) : FormWf.Statement (.xchRRAtIYd rr d) :=
  FormWf.of_length _ 3 rfl rfl rfl
theorem FormWf.xchRRAtSPd (rr : Reg16) (d : Byte) : FormWf.Statement (.xchRRAtSPd rr d) :=
  FormWf.of_length _ 3 rfl rfl rfl
theorem FormWf.xchRRAtHLd (rr : Reg16) (d : Byte) : FormWf.Statement (.xchRRAtHLd rr d) :=
  FormWf.of_length _ 3 rfl rfl rfl
theorem FormWf.xchRRAtPCA (rr : Reg16) : FormWf.Statement (.xchRRAtPCA rr) :=
  FormWf.of_length _ 2 rfl rfl rfl
theorem FormWf.cplAtXb (x : Byte) (b : BitNo) : FormWf.Statement (.cplAtXb x b) :=
  FormWf.of_length _ 3 rfl rfl rfl
theorem FormWf.cplAtVWb (addr : Word) (b : BitNo) : FormWf.Statement (.cplAtVWb addr b) :=
  FormWf.of_length _ 4 rfl rfl rfl
theorem FormWf.cplAtDEb (b : BitNo) : FormWf.Statement (.cplAtDEb b) :=
  FormWf.of_length _ 2 rfl rfl rfl
theorem FormWf.cplAtHLb (b : BitNo) : FormWf.Statement (.cplAtHLb b) :=
  FormWf.of_length _ 2 rfl rfl rfl
theorem FormWf.cplAtIXb (b : BitNo) : FormWf.Statement (.cplAtIXb b) :=
  FormWf.of_length _ 2 rfl rfl rfl
theorem FormWf.cplAtIYb (b : BitNo) : FormWf.Statement (.cplAtIYb b) :=
  FormWf.of_length _ 2 rfl rfl rfl
theorem FormWf.cplAtIncSPb (b : BitNo) : FormWf.Statement (.cplAtIncSPb b) :=
  FormWf.of_length _ 2 rfl rfl rfl
theorem FormWf.cplAtHLCb (b : BitNo) : FormWf.Statement (.cplAtHLCb b) :=
  FormWf.of_length _ 2 rfl rfl rfl
theorem FormWf.cplAtIXdb (d : Byte) (b : BitNo) : FormWf.Statement (.cplAtIXdb d b) :=
  FormWf.of_length _ 3 rfl rfl rfl
theorem FormWf.cplAtIYdb (d : Byte) (b : BitNo) : FormWf.Statement (.cplAtIYdb d b) :=
  FormWf.of_length _ 3 rfl rfl rfl
theorem FormWf.cplAtSPdb (d : Byte) (b : BitNo) : FormWf.Statement (.cplAtSPdb d b) :=
  FormWf.of_length _ 3 rfl rfl rfl
theorem FormWf.cplAtHLdb (d : Byte) (b : BitNo) : FormWf.Statement (.cplAtHLdb d b) :=
  FormWf.of_length _ 3 rfl rfl rfl
theorem FormWf.cplAtPCAb (b : BitNo) : FormWf.Statement (.cplAtPCAb b) :=
  FormWf.of_length _ 2 rfl rfl rfl
theorem FormWf.ldAtXbCF (x : Byte) (b : BitNo) : FormWf.Statement (.ldAtXbCF x b) :=
  FormWf.of_length _ 3 rfl rfl rfl
theorem FormWf.ldAtVWbCF (addr : Word) (b : BitNo) : FormWf.Statement (.ldAtVWbCF addr b) :=
  FormWf.of_length _ 4 rfl rfl rfl
theorem FormWf.ldAtDEbCF (b : BitNo) : FormWf.Statement (.ldAtDEbCF b) :=
  FormWf.of_length _ 2 rfl rfl rfl
theorem FormWf.ldAtHLbCF (b : BitNo) : FormWf.Statement (.ldAtHLbCF b) :=
  FormWf.of_length _ 2 rfl rfl rfl
theorem FormWf.ldAtIXbCF (b : BitNo) : FormWf.Statement (.ldAtIXbCF b) :=
  FormWf.of_length _ 2 rfl rfl rfl
theorem FormWf.ldAtIYbCF (b : BitNo) : FormWf.Statement (.ldAtIYbCF b) :=
  FormWf.of_length _ 2 rfl rfl rfl
theorem FormWf.ldAtIncSPbCF (b : BitNo) : FormWf.Statement (.ldAtIncSPbCF b) :=
  FormWf.of_length _ 2 rfl rfl rfl
theorem FormWf.ldAtHLCbCF (b : BitNo) : FormWf.Statement (.ldAtHLCbCF b) :=
  FormWf.of_length _ 2 rfl rfl rfl
theorem FormWf.ldAtIXdbCF (d : Byte) (b : BitNo) : FormWf.Statement (.ldAtIXdbCF d b) :=
  FormWf.of_length _ 3 rfl rfl rfl
theorem FormWf.ldAtIYdbCF (d : Byte) (b : BitNo) : FormWf.Statement (.ldAtIYdbCF d b) :=
  FormWf.of_length _ 3 rfl rfl rfl
theorem FormWf.ldAtSPdbCF (d : Byte) (b : BitNo) : FormWf.Statement (.ldAtSPdbCF d b) :=
  FormWf.of_length _ 3 rfl rfl rfl
theorem FormWf.ldAtHLdbCF (d : Byte) (b : BitNo) : FormWf.Statement (.ldAtHLdbCF d b) :=
  FormWf.of_length _ 3 rfl rfl rfl
theorem FormWf.ldAtPCAbCF (b : BitNo) : FormWf.Statement (.ldAtPCAbCF b) :=
  FormWf.of_length _ 2 rfl rfl rfl
theorem FormWf.incAtX (x : Byte) : FormWf.Statement (.incAtX x) :=
  FormWf.of_length _ 3 rfl rfl rfl
theorem FormWf.incAtVW (addr : Word) : FormWf.Statement (.incAtVW addr) :=
  FormWf.of_length _ 4 rfl rfl rfl
theorem FormWf.incAtDE : FormWf.Statement .incAtDE :=
  FormWf.of_length _ 2 rfl rfl rfl
theorem FormWf.incAtHL : FormWf.Statement .incAtHL :=
  FormWf.of_length _ 2 rfl rfl rfl
theorem FormWf.incAtIX : FormWf.Statement .incAtIX :=
  FormWf.of_length _ 2 rfl rfl rfl
theorem FormWf.incAtIY : FormWf.Statement .incAtIY :=
  FormWf.of_length _ 2 rfl rfl rfl
theorem FormWf.incAtIncSP : FormWf.Statement .incAtIncSP :=
  FormWf.of_length _ 2 rfl rfl rfl
theorem FormWf.incAtHLC : FormWf.Statement .incAtHLC :=
  FormWf.of_length _ 2 rfl rfl rfl
theorem FormWf.incAtIXd (d : Byte) : FormWf.Statement (.incAtIXd d) :=
  FormWf.of_length _ 3 rfl rfl rfl
theorem FormWf.incAtIYd (d : Byte) : FormWf.Statement (.incAtIYd d) :=
  FormWf.of_length _ 3 rfl rfl rfl
theorem FormWf.incAtSPd (d : Byte) : FormWf.Statement (.incAtSPd d) :=
  FormWf.of_length _ 3 rfl rfl rfl
theorem FormWf.incAtHLd (d : Byte) : FormWf.Statement (.incAtHLd d) :=
  FormWf.of_length _ 3 rfl rfl rfl
theorem FormWf.incAtPCA : FormWf.Statement .incAtPCA :=
  FormWf.of_length _ 2 rfl rfl rfl
theorem FormWf.setAtXbitA (x : Byte) : FormWf.Statement (.setAtXbitA x) :=
  FormWf.of_length _ 3 rfl rfl rfl
theorem FormWf.setAtVWbitA (addr : Word) : FormWf.Statement (.setAtVWbitA addr) :=
  FormWf.of_length _ 4 rfl rfl rfl
theorem FormWf.setAtDEbitA : FormWf.Statement .setAtDEbitA :=
  FormWf.of_length _ 2 rfl rfl rfl
theorem FormWf.setAtHLbitA : FormWf.Statement .setAtHLbitA :=
  FormWf.of_length _ 2 rfl rfl rfl
theorem FormWf.setAtIXbitA : FormWf.Statement .setAtIXbitA :=
  FormWf.of_length _ 2 rfl rfl rfl
theorem FormWf.setAtIYbitA : FormWf.Statement .setAtIYbitA :=
  FormWf.of_length _ 2 rfl rfl rfl
theorem FormWf.setAtIncSPbitA : FormWf.Statement .setAtIncSPbitA :=
  FormWf.of_length _ 2 rfl rfl rfl
theorem FormWf.setAtHLCbitA : FormWf.Statement .setAtHLCbitA :=
  FormWf.of_length _ 2 rfl rfl rfl
theorem FormWf.setAtIXdbitA (d : Byte) : FormWf.Statement (.setAtIXdbitA d) :=
  FormWf.of_length _ 3 rfl rfl rfl
theorem FormWf.setAtIYdbitA (d : Byte) : FormWf.Statement (.setAtIYdbitA d) :=
  FormWf.of_length _ 3 rfl rfl rfl
theorem FormWf.setAtSPdbitA (d : Byte) : FormWf.Statement (.setAtSPdbitA d) :=
  FormWf.of_length _ 3 rfl rfl rfl
theorem FormWf.setAtHLdbitA (d : Byte) : FormWf.Statement (.setAtHLdbitA d) :=
  FormWf.of_length _ 3 rfl rfl rfl
theorem FormWf.setAtPCAbitA : FormWf.Statement .setAtPCAbitA :=
  FormWf.of_length _ 2 rfl rfl rfl
theorem FormWf.ldAtXbitACF (x : Byte) : FormWf.Statement (.ldAtXbitACF x) :=
  FormWf.of_length _ 3 rfl rfl rfl
theorem FormWf.ldAtVWbitACF (addr : Word) : FormWf.Statement (.ldAtVWbitACF addr) :=
  FormWf.of_length _ 4 rfl rfl rfl
theorem FormWf.ldAtDEbitACF : FormWf.Statement .ldAtDEbitACF :=
  FormWf.of_length _ 2 rfl rfl rfl
theorem FormWf.ldAtHLbitACF : FormWf.Statement .ldAtHLbitACF :=
  FormWf.of_length _ 2 rfl rfl rfl
theorem FormWf.ldAtIXbitACF : FormWf.Statement .ldAtIXbitACF :=
  FormWf.of_length _ 2 rfl rfl rfl
theorem FormWf.ldAtIYbitACF : FormWf.Statement .ldAtIYbitACF :=
  FormWf.of_length _ 2 rfl rfl rfl
theorem FormWf.ldAtIncSPbitACF : FormWf.Statement .ldAtIncSPbitACF :=
  FormWf.of_length _ 2 rfl rfl rfl
theorem FormWf.ldAtHLCbitACF : FormWf.Statement .ldAtHLCbitACF :=
  FormWf.of_length _ 2 rfl rfl rfl
theorem FormWf.ldAtIXdbitACF (d : Byte) : FormWf.Statement (.ldAtIXdbitACF d) :=
  FormWf.of_length _ 3 rfl rfl rfl
theorem FormWf.ldAtIYdbitACF (d : Byte) : FormWf.Statement (.ldAtIYdbitACF d) :=
  FormWf.of_length _ 3 rfl rfl rfl
theorem FormWf.ldAtSPdbitACF (d : Byte) : FormWf.Statement (.ldAtSPdbitACF d) :=
  FormWf.of_length _ 3 rfl rfl rfl
theorem FormWf.ldAtHLdbitACF (d : Byte) : FormWf.Statement (.ldAtHLdbitACF d) :=
  FormWf.of_length _ 3 rfl rfl rfl
theorem FormWf.ldAtPCAbitACF : FormWf.Statement .ldAtPCAbitACF :=
  FormWf.of_length _ 2 rfl rfl rfl
theorem FormWf.roldAAtX (x : Byte) : FormWf.Statement (.roldAAtX x) :=
  FormWf.of_length _ 3 rfl rfl rfl
theorem FormWf.roldAAtVW (addr : Word) : FormWf.Statement (.roldAAtVW addr) :=
  FormWf.of_length _ 4 rfl rfl rfl
theorem FormWf.roldAAtDE : FormWf.Statement .roldAAtDE :=
  FormWf.of_length _ 2 rfl rfl rfl
theorem FormWf.roldAAtHL : FormWf.Statement .roldAAtHL :=
  FormWf.of_length _ 2 rfl rfl rfl
theorem FormWf.roldAAtIX : FormWf.Statement .roldAAtIX :=
  FormWf.of_length _ 2 rfl rfl rfl
theorem FormWf.roldAAtIY : FormWf.Statement .roldAAtIY :=
  FormWf.of_length _ 2 rfl rfl rfl
theorem FormWf.roldAAtIncSP : FormWf.Statement .roldAAtIncSP :=
  FormWf.of_length _ 2 rfl rfl rfl
theorem FormWf.roldAAtHLC : FormWf.Statement .roldAAtHLC :=
  FormWf.of_length _ 2 rfl rfl rfl
theorem FormWf.roldAAtIXd (d : Byte) : FormWf.Statement (.roldAAtIXd d) :=
  FormWf.of_length _ 3 rfl rfl rfl
theorem FormWf.roldAAtIYd (d : Byte) : FormWf.Statement (.roldAAtIYd d) :=
  FormWf.of_length _ 3 rfl rfl rfl
theorem FormWf.roldAAtSPd (d : Byte) : FormWf.Statement (.roldAAtSPd d) :=
  FormWf.of_length _ 3 rfl rfl rfl
theorem FormWf.roldAAtHLd (d : Byte) : FormWf.Statement (.roldAAtHLd d) :=
  FormWf.of_length _ 3 rfl rfl rfl
theorem FormWf.roldAAtPCA : FormWf.Statement .roldAAtPCA :=
  FormWf.of_length _ 2 rfl rfl rfl
theorem FormWf.rordAAtX (x : Byte) : FormWf.Statement (.rordAAtX x) :=
  FormWf.of_length _ 3 rfl rfl rfl
theorem FormWf.rordAAtVW (addr : Word) : FormWf.Statement (.rordAAtVW addr) :=
  FormWf.of_length _ 4 rfl rfl rfl
theorem FormWf.rordAAtDE : FormWf.Statement .rordAAtDE :=
  FormWf.of_length _ 2 rfl rfl rfl
theorem FormWf.rordAAtHL : FormWf.Statement .rordAAtHL :=
  FormWf.of_length _ 2 rfl rfl rfl
theorem FormWf.rordAAtIX : FormWf.Statement .rordAAtIX :=
  FormWf.of_length _ 2 rfl rfl rfl
theorem FormWf.rordAAtIY : FormWf.Statement .rordAAtIY :=
  FormWf.of_length _ 2 rfl rfl rfl
theorem FormWf.rordAAtIncSP : FormWf.Statement .rordAAtIncSP :=
  FormWf.of_length _ 2 rfl rfl rfl
theorem FormWf.rordAAtHLC : FormWf.Statement .rordAAtHLC :=
  FormWf.of_length _ 2 rfl rfl rfl
theorem FormWf.rordAAtIXd (d : Byte) : FormWf.Statement (.rordAAtIXd d) :=
  FormWf.of_length _ 3 rfl rfl rfl
theorem FormWf.rordAAtIYd (d : Byte) : FormWf.Statement (.rordAAtIYd d) :=
  FormWf.of_length _ 3 rfl rfl rfl
theorem FormWf.rordAAtSPd (d : Byte) : FormWf.Statement (.rordAAtSPd d) :=
  FormWf.of_length _ 3 rfl rfl rfl
theorem FormWf.rordAAtHLd (d : Byte) : FormWf.Statement (.rordAAtHLd d) :=
  FormWf.of_length _ 3 rfl rfl rfl
theorem FormWf.rordAAtPCA : FormWf.Statement .rordAAtPCA :=
  FormWf.of_length _ 2 rfl rfl rfl
theorem FormWf.decAtX (x : Byte) : FormWf.Statement (.decAtX x) :=
  FormWf.of_length _ 3 rfl rfl rfl
theorem FormWf.decAtVW (addr : Word) : FormWf.Statement (.decAtVW addr) :=
  FormWf.of_length _ 4 rfl rfl rfl
theorem FormWf.decAtDE : FormWf.Statement .decAtDE :=
  FormWf.of_length _ 2 rfl rfl rfl
theorem FormWf.decAtHL : FormWf.Statement .decAtHL :=
  FormWf.of_length _ 2 rfl rfl rfl
theorem FormWf.decAtIX : FormWf.Statement .decAtIX :=
  FormWf.of_length _ 2 rfl rfl rfl
theorem FormWf.decAtIY : FormWf.Statement .decAtIY :=
  FormWf.of_length _ 2 rfl rfl rfl
theorem FormWf.decAtIncSP : FormWf.Statement .decAtIncSP :=
  FormWf.of_length _ 2 rfl rfl rfl
theorem FormWf.decAtHLC : FormWf.Statement .decAtHLC :=
  FormWf.of_length _ 2 rfl rfl rfl
theorem FormWf.decAtIXd (d : Byte) : FormWf.Statement (.decAtIXd d) :=
  FormWf.of_length _ 3 rfl rfl rfl
theorem FormWf.decAtIYd (d : Byte) : FormWf.Statement (.decAtIYd d) :=
  FormWf.of_length _ 3 rfl rfl rfl
theorem FormWf.decAtSPd (d : Byte) : FormWf.Statement (.decAtSPd d) :=
  FormWf.of_length _ 3 rfl rfl rfl
theorem FormWf.decAtHLd (d : Byte) : FormWf.Statement (.decAtHLd d) :=
  FormWf.of_length _ 3 rfl rfl rfl
theorem FormWf.decAtPCA : FormWf.Statement .decAtPCA :=
  FormWf.of_length _ 2 rfl rfl rfl
theorem FormWf.clrAtXbitA (x : Byte) : FormWf.Statement (.clrAtXbitA x) :=
  FormWf.of_length _ 3 rfl rfl rfl
theorem FormWf.clrAtVWbitA (addr : Word) : FormWf.Statement (.clrAtVWbitA addr) :=
  FormWf.of_length _ 4 rfl rfl rfl
theorem FormWf.clrAtDEbitA : FormWf.Statement .clrAtDEbitA :=
  FormWf.of_length _ 2 rfl rfl rfl
theorem FormWf.clrAtHLbitA : FormWf.Statement .clrAtHLbitA :=
  FormWf.of_length _ 2 rfl rfl rfl
theorem FormWf.clrAtIXbitA : FormWf.Statement .clrAtIXbitA :=
  FormWf.of_length _ 2 rfl rfl rfl
theorem FormWf.clrAtIYbitA : FormWf.Statement .clrAtIYbitA :=
  FormWf.of_length _ 2 rfl rfl rfl
theorem FormWf.clrAtIncSPbitA : FormWf.Statement .clrAtIncSPbitA :=
  FormWf.of_length _ 2 rfl rfl rfl
theorem FormWf.clrAtHLCbitA : FormWf.Statement .clrAtHLCbitA :=
  FormWf.of_length _ 2 rfl rfl rfl
theorem FormWf.clrAtIXdbitA (d : Byte) : FormWf.Statement (.clrAtIXdbitA d) :=
  FormWf.of_length _ 3 rfl rfl rfl
theorem FormWf.clrAtIYdbitA (d : Byte) : FormWf.Statement (.clrAtIYdbitA d) :=
  FormWf.of_length _ 3 rfl rfl rfl
theorem FormWf.clrAtSPdbitA (d : Byte) : FormWf.Statement (.clrAtSPdbitA d) :=
  FormWf.of_length _ 3 rfl rfl rfl
theorem FormWf.clrAtHLdbitA (d : Byte) : FormWf.Statement (.clrAtHLdbitA d) :=
  FormWf.of_length _ 3 rfl rfl rfl
theorem FormWf.clrAtPCAbitA : FormWf.Statement .clrAtPCAbitA :=
  FormWf.of_length _ 2 rfl rfl rfl
theorem FormWf.cplAtXbitA (x : Byte) : FormWf.Statement (.cplAtXbitA x) :=
  FormWf.of_length _ 3 rfl rfl rfl
theorem FormWf.cplAtVWbitA (addr : Word) : FormWf.Statement (.cplAtVWbitA addr) :=
  FormWf.of_length _ 4 rfl rfl rfl
theorem FormWf.cplAtDEbitA : FormWf.Statement .cplAtDEbitA :=
  FormWf.of_length _ 2 rfl rfl rfl
theorem FormWf.cplAtHLbitA : FormWf.Statement .cplAtHLbitA :=
  FormWf.of_length _ 2 rfl rfl rfl
theorem FormWf.cplAtIXbitA : FormWf.Statement .cplAtIXbitA :=
  FormWf.of_length _ 2 rfl rfl rfl
theorem FormWf.cplAtIYbitA : FormWf.Statement .cplAtIYbitA :=
  FormWf.of_length _ 2 rfl rfl rfl
theorem FormWf.cplAtIncSPbitA : FormWf.Statement .cplAtIncSPbitA :=
  FormWf.of_length _ 2 rfl rfl rfl
theorem FormWf.cplAtHLCbitA : FormWf.Statement .cplAtHLCbitA :=
  FormWf.of_length _ 2 rfl rfl rfl
theorem FormWf.cplAtIXdbitA (d : Byte) : FormWf.Statement (.cplAtIXdbitA d) :=
  FormWf.of_length _ 3 rfl rfl rfl
theorem FormWf.cplAtIYdbitA (d : Byte) : FormWf.Statement (.cplAtIYdbitA d) :=
  FormWf.of_length _ 3 rfl rfl rfl
theorem FormWf.cplAtSPdbitA (d : Byte) : FormWf.Statement (.cplAtSPdbitA d) :=
  FormWf.of_length _ 3 rfl rfl rfl
theorem FormWf.cplAtHLdbitA (d : Byte) : FormWf.Statement (.cplAtHLdbitA d) :=
  FormWf.of_length _ 3 rfl rfl rfl
theorem FormWf.cplAtPCAbitA : FormWf.Statement .cplAtPCAbitA :=
  FormWf.of_length _ 2 rfl rfl rfl
theorem FormWf.ldCFAtXbitA (x : Byte) : FormWf.Statement (.ldCFAtXbitA x) :=
  FormWf.of_length _ 3 rfl rfl rfl
theorem FormWf.ldCFAtVWbitA (addr : Word) : FormWf.Statement (.ldCFAtVWbitA addr) :=
  FormWf.of_length _ 4 rfl rfl rfl
theorem FormWf.ldCFAtDEbitA : FormWf.Statement .ldCFAtDEbitA :=
  FormWf.of_length _ 2 rfl rfl rfl
theorem FormWf.ldCFAtHLbitA : FormWf.Statement .ldCFAtHLbitA :=
  FormWf.of_length _ 2 rfl rfl rfl
theorem FormWf.ldCFAtIXbitA : FormWf.Statement .ldCFAtIXbitA :=
  FormWf.of_length _ 2 rfl rfl rfl
theorem FormWf.ldCFAtIYbitA : FormWf.Statement .ldCFAtIYbitA :=
  FormWf.of_length _ 2 rfl rfl rfl
theorem FormWf.ldCFAtIncSPbitA : FormWf.Statement .ldCFAtIncSPbitA :=
  FormWf.of_length _ 2 rfl rfl rfl
theorem FormWf.ldCFAtHLCbitA : FormWf.Statement .ldCFAtHLCbitA :=
  FormWf.of_length _ 2 rfl rfl rfl
theorem FormWf.ldCFAtIXdbitA (d : Byte) : FormWf.Statement (.ldCFAtIXdbitA d) :=
  FormWf.of_length _ 3 rfl rfl rfl
theorem FormWf.ldCFAtIYdbitA (d : Byte) : FormWf.Statement (.ldCFAtIYdbitA d) :=
  FormWf.of_length _ 3 rfl rfl rfl
theorem FormWf.ldCFAtSPdbitA (d : Byte) : FormWf.Statement (.ldCFAtSPdbitA d) :=
  FormWf.of_length _ 3 rfl rfl rfl
theorem FormWf.ldCFAtHLdbitA (d : Byte) : FormWf.Statement (.ldCFAtHLdbitA d) :=
  FormWf.of_length _ 3 rfl rfl rfl
theorem FormWf.ldCFAtPCAbitA : FormWf.Statement .ldCFAtPCAbitA :=
  FormWf.of_length _ 2 rfl rfl rfl
theorem FormWf.testAtXbitA (x : Byte) : FormWf.Statement (.testAtXbitA x) :=
  FormWf.of_length _ 3 rfl rfl rfl
theorem FormWf.testAtVWbitA (addr : Word) : FormWf.Statement (.testAtVWbitA addr) :=
  FormWf.of_length _ 4 rfl rfl rfl
theorem FormWf.testAtDEbitA : FormWf.Statement .testAtDEbitA :=
  FormWf.of_length _ 2 rfl rfl rfl
theorem FormWf.testAtHLbitA : FormWf.Statement .testAtHLbitA :=
  FormWf.of_length _ 2 rfl rfl rfl
theorem FormWf.testAtIXbitA : FormWf.Statement .testAtIXbitA :=
  FormWf.of_length _ 2 rfl rfl rfl
theorem FormWf.testAtIYbitA : FormWf.Statement .testAtIYbitA :=
  FormWf.of_length _ 2 rfl rfl rfl
theorem FormWf.testAtIncSPbitA : FormWf.Statement .testAtIncSPbitA :=
  FormWf.of_length _ 2 rfl rfl rfl
theorem FormWf.testAtHLCbitA : FormWf.Statement .testAtHLCbitA :=
  FormWf.of_length _ 2 rfl rfl rfl
theorem FormWf.testAtIXdbitA (d : Byte) : FormWf.Statement (.testAtIXdbitA d) :=
  FormWf.of_length _ 3 rfl rfl rfl
theorem FormWf.testAtIYdbitA (d : Byte) : FormWf.Statement (.testAtIYdbitA d) :=
  FormWf.of_length _ 3 rfl rfl rfl
theorem FormWf.testAtSPdbitA (d : Byte) : FormWf.Statement (.testAtSPdbitA d) :=
  FormWf.of_length _ 3 rfl rfl rfl
theorem FormWf.testAtHLdbitA (d : Byte) : FormWf.Statement (.testAtHLdbitA d) :=
  FormWf.of_length _ 3 rfl rfl rfl
theorem FormWf.testAtPCAbitA : FormWf.Statement .testAtPCAbitA :=
  FormWf.of_length _ 2 rfl rfl rfl
theorem FormWf.callAtX (x : Byte) : FormWf.Statement (.callAtX x) :=
  FormWf.of_length _ 3 rfl rfl rfl
theorem FormWf.callAtVW (addr : Word) : FormWf.Statement (.callAtVW addr) :=
  FormWf.of_length _ 4 rfl rfl rfl
theorem FormWf.callAtDE : FormWf.Statement .callAtDE :=
  FormWf.of_length _ 2 rfl rfl rfl
theorem FormWf.callAtHL : FormWf.Statement .callAtHL :=
  FormWf.of_length _ 2 rfl rfl rfl
theorem FormWf.callAtIX : FormWf.Statement .callAtIX :=
  FormWf.of_length _ 2 rfl rfl rfl
theorem FormWf.callAtIY : FormWf.Statement .callAtIY :=
  FormWf.of_length _ 2 rfl rfl rfl
theorem FormWf.callAtIncSP : FormWf.Statement .callAtIncSP :=
  FormWf.of_length _ 2 rfl rfl rfl
theorem FormWf.callAtHLC : FormWf.Statement .callAtHLC :=
  FormWf.of_length _ 2 rfl rfl rfl
theorem FormWf.callAtIXd (d : Byte) : FormWf.Statement (.callAtIXd d) :=
  FormWf.of_length _ 3 rfl rfl rfl
theorem FormWf.callAtIYd (d : Byte) : FormWf.Statement (.callAtIYd d) :=
  FormWf.of_length _ 3 rfl rfl rfl
theorem FormWf.callAtSPd (d : Byte) : FormWf.Statement (.callAtSPd d) :=
  FormWf.of_length _ 3 rfl rfl rfl
theorem FormWf.callAtHLd (d : Byte) : FormWf.Statement (.callAtHLd d) :=
  FormWf.of_length _ 3 rfl rfl rfl
theorem FormWf.callAtPCA : FormWf.Statement .callAtPCA :=
  FormWf.of_length _ 2 rfl rfl rfl
theorem FormWf.jpAtX (x : Byte) : FormWf.Statement (.jpAtX x) :=
  FormWf.of_length _ 3 rfl rfl rfl
theorem FormWf.jpAtVW (addr : Word) : FormWf.Statement (.jpAtVW addr) :=
  FormWf.of_length _ 4 rfl rfl rfl
theorem FormWf.jpAtDE : FormWf.Statement .jpAtDE :=
  FormWf.of_length _ 2 rfl rfl rfl
theorem FormWf.jpAtHL : FormWf.Statement .jpAtHL :=
  FormWf.of_length _ 2 rfl rfl rfl
theorem FormWf.jpAtIX : FormWf.Statement .jpAtIX :=
  FormWf.of_length _ 2 rfl rfl rfl
theorem FormWf.jpAtIY : FormWf.Statement .jpAtIY :=
  FormWf.of_length _ 2 rfl rfl rfl
theorem FormWf.jpAtIncSP : FormWf.Statement .jpAtIncSP :=
  FormWf.of_length _ 2 rfl rfl rfl
theorem FormWf.jpAtHLC : FormWf.Statement .jpAtHLC :=
  FormWf.of_length _ 2 rfl rfl rfl
theorem FormWf.jpAtIXd (d : Byte) : FormWf.Statement (.jpAtIXd d) :=
  FormWf.of_length _ 3 rfl rfl rfl
theorem FormWf.jpAtIYd (d : Byte) : FormWf.Statement (.jpAtIYd d) :=
  FormWf.of_length _ 3 rfl rfl rfl
theorem FormWf.jpAtSPd (d : Byte) : FormWf.Statement (.jpAtSPd d) :=
  FormWf.of_length _ 3 rfl rfl rfl
theorem FormWf.jpAtHLd (d : Byte) : FormWf.Statement (.jpAtHLd d) :=
  FormWf.of_length _ 3 rfl rfl rfl
theorem FormWf.jpAtPCA : FormWf.Statement .jpAtPCA :=
  FormWf.of_length _ 2 rfl rfl rfl
theorem FormWf.ldAtXRR (x : Byte) (rr : Reg16) : FormWf.Statement (.ldAtXRR x rr) :=
  FormWf.of_length _ 3 rfl rfl rfl
theorem FormWf.ldAtXR (x : Byte) (r : Reg8) : FormWf.Statement (.ldAtXR x r) :=
  FormWf.of_length _ 3 rfl rfl rfl
theorem FormWf.ldAtXNLong (x : Byte) (n : Byte) : FormWf.Statement (.ldAtXNLong x n) :=
  FormWf.of_length _ 4 rfl rfl rfl
theorem FormWf.ldAtVWRR (addr : Word) (rr : Reg16) : FormWf.Statement (.ldAtVWRR addr rr) :=
  FormWf.of_length _ 4 rfl rfl rfl
theorem FormWf.ldAtVWR (addr : Word) (r : Reg8) : FormWf.Statement (.ldAtVWR addr r) :=
  FormWf.of_length _ 4 rfl rfl rfl
theorem FormWf.ldAtVWN (addr : Word) (n : Byte) : FormWf.Statement (.ldAtVWN addr n) :=
  FormWf.of_length _ 5 rfl rfl rfl
theorem FormWf.ldAtDERR (rr : Reg16) : FormWf.Statement (.ldAtDERR rr) :=
  FormWf.of_length _ 2 rfl rfl rfl
theorem FormWf.ldAtDER (r : Reg8) : FormWf.Statement (.ldAtDER r) :=
  FormWf.of_length _ 2 rfl rfl rfl
theorem FormWf.ldAtDEN (n : Byte) : FormWf.Statement (.ldAtDEN n) :=
  FormWf.of_length _ 3 rfl rfl rfl
theorem FormWf.ldAtHLRR (rr : Reg16) : FormWf.Statement (.ldAtHLRR rr) :=
  FormWf.of_length _ 2 rfl rfl rfl
theorem FormWf.ldAtHLR (r : Reg8) : FormWf.Statement (.ldAtHLR r) :=
  FormWf.of_length _ 2 rfl rfl rfl
theorem FormWf.ldAtHLNLong (n : Byte) : FormWf.Statement (.ldAtHLNLong n) :=
  FormWf.of_length _ 3 rfl rfl rfl
theorem FormWf.ldAtIXRR (rr : Reg16) : FormWf.Statement (.ldAtIXRR rr) :=
  FormWf.of_length _ 2 rfl rfl rfl
theorem FormWf.ldAtIXR (r : Reg8) : FormWf.Statement (.ldAtIXR r) :=
  FormWf.of_length _ 2 rfl rfl rfl
theorem FormWf.ldAtIXN (n : Byte) : FormWf.Statement (.ldAtIXN n) :=
  FormWf.of_length _ 3 rfl rfl rfl
theorem FormWf.ldAtIYRR (rr : Reg16) : FormWf.Statement (.ldAtIYRR rr) :=
  FormWf.of_length _ 2 rfl rfl rfl
theorem FormWf.ldAtIYR (r : Reg8) : FormWf.Statement (.ldAtIYR r) :=
  FormWf.of_length _ 2 rfl rfl rfl
theorem FormWf.ldAtIYN (n : Byte) : FormWf.Statement (.ldAtIYN n) :=
  FormWf.of_length _ 3 rfl rfl rfl
theorem FormWf.ldAtSPDecRR (rr : Reg16) : FormWf.Statement (.ldAtSPDecRR rr) :=
  FormWf.of_length _ 2 rfl rfl rfl
theorem FormWf.ldAtSPDecR (r : Reg8) : FormWf.Statement (.ldAtSPDecR r) :=
  FormWf.of_length _ 2 rfl rfl rfl
theorem FormWf.ldAtSPDecN (n : Byte) : FormWf.Statement (.ldAtSPDecN n) :=
  FormWf.of_length _ 3 rfl rfl rfl
theorem FormWf.ldAtHLCRR (rr : Reg16) : FormWf.Statement (.ldAtHLCRR rr) :=
  FormWf.of_length _ 2 rfl rfl rfl
theorem FormWf.ldAtHLCR (r : Reg8) : FormWf.Statement (.ldAtHLCR r) :=
  FormWf.of_length _ 2 rfl rfl rfl
theorem FormWf.ldAtHLCN (n : Byte) : FormWf.Statement (.ldAtHLCN n) :=
  FormWf.of_length _ 3 rfl rfl rfl
theorem FormWf.ldAtIXdRR (d : Byte) (rr : Reg16) : FormWf.Statement (.ldAtIXdRR d rr) :=
  FormWf.of_length _ 3 rfl rfl rfl
theorem FormWf.ldAtIXdR (d : Byte) (r : Reg8) : FormWf.Statement (.ldAtIXdR d r) :=
  FormWf.of_length _ 3 rfl rfl rfl
theorem FormWf.ldAtIXdN (d : Byte) (n : Byte) : FormWf.Statement (.ldAtIXdN d n) :=
  FormWf.of_length _ 4 rfl rfl rfl
theorem FormWf.ldAtIYdRR (d : Byte) (rr : Reg16) : FormWf.Statement (.ldAtIYdRR d rr) :=
  FormWf.of_length _ 3 rfl rfl rfl
theorem FormWf.ldAtIYdR (d : Byte) (r : Reg8) : FormWf.Statement (.ldAtIYdR d r) :=
  FormWf.of_length _ 3 rfl rfl rfl
theorem FormWf.ldAtIYdN (d : Byte) (n : Byte) : FormWf.Statement (.ldAtIYdN d n) :=
  FormWf.of_length _ 4 rfl rfl rfl
theorem FormWf.ldAtSPdRR (d : Byte) (rr : Reg16) : FormWf.Statement (.ldAtSPdRR d rr) :=
  FormWf.of_length _ 3 rfl rfl rfl
theorem FormWf.ldAtSPdR (d : Byte) (r : Reg8) : FormWf.Statement (.ldAtSPdR d r) :=
  FormWf.of_length _ 3 rfl rfl rfl
theorem FormWf.ldAtSPdN (d : Byte) (n : Byte) : FormWf.Statement (.ldAtSPdN d n) :=
  FormWf.of_length _ 4 rfl rfl rfl
theorem FormWf.ldAtHLdRR (d : Byte) (rr : Reg16) : FormWf.Statement (.ldAtHLdRR d rr) :=
  FormWf.of_length _ 3 rfl rfl rfl
theorem FormWf.ldAtHLdR (d : Byte) (r : Reg8) : FormWf.Statement (.ldAtHLdR d r) :=
  FormWf.of_length _ 3 rfl rfl rfl
theorem FormWf.ldAtHLdN (d : Byte) (n : Byte) : FormWf.Statement (.ldAtHLdN d n) :=
  FormWf.of_length _ 4 rfl rfl rfl

end Sys2Proof.Laws
end

