-- ==== Sys2Proof/Laws/Run.lean ====
section
/-!
SUPPORT. Every instruction answers a next state, the one that the shared operation of its operand form computes.
A proof about an instruction rewrites with `exec_eq_run` once and then reads the operation's own lemmas; it
never splits over the 783 constructors again.
-/

namespace Sys2Proof.Machine

open Sys2Proof

/-- The state after an instruction of a form. -/
def run (f : Form) (s : State) : State :=
  match f with
  | .nop => Sys2Proof.Machine.nop s
  | .clrCF => Sys2Proof.Machine.clrCF s
  | .setCF => Sys2Proof.Machine.setCF s
  | .cplCF => Sys2Proof.Machine.cplCF s
  | .cmpXN x n => Sys2Proof.Machine.cmpXN x n s
  | .ldwXMN x mn => Sys2Proof.Machine.ldwXMN x mn s
  | .ldwHLMN mn => Sys2Proof.Machine.ldwHLMN mn s
  | .ldXN x n => Sys2Proof.Machine.ldXN x n s
  | .ldHLN n => Sys2Proof.Machine.ldHLN n s
  | .ldAX x => Sys2Proof.Machine.ldAX x s
  | .ldAHL => Sys2Proof.Machine.ldAHL s
  | .ldXA x => Sys2Proof.Machine.ldXA x s
  | .ldHLA => Sys2Proof.Machine.ldHLA s
  | .ldAR r => Sys2Proof.Machine.ldAR r s
  | .ldRN r n => Sys2Proof.Machine.ldRN r n s
  | .incR r => Sys2Proof.Machine.incR r s
  | .decR r => Sys2Proof.Machine.decR r s
  | .incRR rr => Sys2Proof.Machine.incRR rr s
  | .ldSPAdd d => Sys2Proof.Machine.ldSPAdd d s
  | .decRR rr => Sys2Proof.Machine.decRR rr s
  | .ldSPSub d => Sys2Proof.Machine.ldSPSub d s
  | .ldRA r => Sys2Proof.Machine.ldRA r s
  | .ldRRMN rr mn => Sys2Proof.Machine.ldRRMN rr mn s
  | .pushPair p => Sys2Proof.Machine.pushPair p s
  | .ldCFXB x b => Sys2Proof.Machine.ldCFXB x b s
  | .aluAN op n => Sys2Proof.Machine.aluAN op n s
  | .callv n => Sys2Proof.Machine.callv n s
  | .jrs sense d => Sys2Proof.Machine.jrs sense d s
  | .setXB x b => Sys2Proof.Machine.setXB x b s
  | .clrXB x b => Sys2Proof.Machine.clrXB x b s
  | .popPair p => Sys2Proof.Machine.popPair p s
  | .jrCC c d => Sys2Proof.Machine.jrCC c d s
  | .ldRBS n => Sys2Proof.Machine.ldRBS n s
  | .ret => Sys2Proof.Machine.ret s
  | .reti => Sys2Proof.Machine.reti s
  | .jrA d => Sys2Proof.Machine.jrA d s
  | .callMN mn => Sys2Proof.Machine.callMN mn s
  | .jpMN mn => Sys2Proof.Machine.jpMN mn s
  | .swi => Sys2Proof.Machine.swi s
  | .aluRG op r g => Sys2Proof.Machine.aluRG op r g s
  | .aluGN op g n => Sys2Proof.Machine.aluGN op g n s
  | .aluGGMN op gg mn => Sys2Proof.Machine.aluGGMN op gg mn s
  | .aluRRGG op rr gg => Sys2Proof.Machine.aluRRGG op rr gg s
  | .ldRG r g => Sys2Proof.Machine.ldRG r g s
  | .ldRRGG rr gg => Sys2Proof.Machine.ldRRGG rr gg s
  | .xorCFGB g b => Sys2Proof.Machine.xorCFGB g b s
  | .ldCFGB g b => Sys2Proof.Machine.ldCFGB g b s
  | .xchRG r g => Sys2Proof.Machine.xchRG r g s
  | .xchRRGG rr gg => Sys2Proof.Machine.xchRRGG rr gg s
  | .bitGB op g b => Sys2Proof.Machine.bitGB op g b s
  | .jrCCLong c d => Sys2Proof.Machine.jrCCLong c d s
  | .pushIndex g => Sys2Proof.Machine.pushIndex g s
  | .popIndex g => Sys2Proof.Machine.popIndex g s
  | .daa g => Sys2Proof.Machine.daa g s
  | .das g => Sys2Proof.Machine.das g s
  | .pushPSW => Sys2Proof.Machine.pushPSW s
  | .popPSW => Sys2Proof.Machine.popPSW s
  | .ldPSW n => Sys2Proof.Machine.ldPSW n s
  | .ldGBCF g b => Sys2Proof.Machine.ldGBCF g b s
  | .shift16 op gg => Sys2Proof.Machine.shift16 op gg s
  | .mul p => Sys2Proof.Machine.mul p s
  | .div p => Sys2Proof.Machine.div p s
  | .shift8 op g => Sys2Proof.Machine.shift8 op g s
  | .negCS gg => Sys2Proof.Machine.negCS gg s
  | .retn => Sys2Proof.Machine.retn s
  | .callGG gg => Sys2Proof.Machine.callGG gg s
  | .jpGG gg => Sys2Proof.Machine.jpGG gg s
  | .swap g => Sys2Proof.Machine.swap g s
  | .aluRSrc op r m => Sys2Proof.Machine.aluRSrc op r m s
  | .aluSrcN op m n => Sys2Proof.Machine.aluSrcN op m n s
  | .aluRRSrc op rr m => Sys2Proof.Machine.aluRRSrc op rr m s
  | .ldRSrc r m => Sys2Proof.Machine.ldRSrc r m s
  | .ldRRSrc rr m => Sys2Proof.Machine.ldRRSrc rr m s
  | .xorCFSrcB m b => Sys2Proof.Machine.xorCFSrcB m b s
  | .ldCFSrcB m b => Sys2Proof.Machine.ldCFSrcB m b s
  | .xchRSrc r m => Sys2Proof.Machine.xchRSrc r m s
  | .bitSrcB op m b => Sys2Proof.Machine.bitSrcB op m b s
  | .xchRRSrc rr m => Sys2Proof.Machine.xchRRSrc rr m s
  | .ldSrcBCF m b => Sys2Proof.Machine.ldSrcBCF m b s
  | .incSrc m => Sys2Proof.Machine.incSrc m s
  | .bitSrcA op m => Sys2Proof.Machine.bitSrcA op m s
  | .ldSrcACF m => Sys2Proof.Machine.ldSrcACF m s
  | .rold m => Sys2Proof.Machine.rold m s
  | .rord m => Sys2Proof.Machine.rord m s
  | .decSrc m => Sys2Proof.Machine.decSrc m s
  | .ldCFSrcA m => Sys2Proof.Machine.ldCFSrcA m s
  | .callSrc m => Sys2Proof.Machine.callSrc m s
  | .jpSrc m => Sys2Proof.Machine.jpSrc m s
  | .ldDstRR m rr => Sys2Proof.Machine.ldDstRR m rr s
  | .ldDstR m r => Sys2Proof.Machine.ldDstR m r s
  | .ldDstN m n => Sys2Proof.Machine.ldDstN m n s

/-- Every instruction answers the next state that its form's operation computes: no instruction faults, none
refuses (R351). -/
theorem exec_eq_run (i : Instr) (s : State) : exec i s = .next (run i.form s) := by
  cases i <;> rfl

/-- `exec_eq_run` at a known form. -/
theorem exec_of_form (i : Instr) (f : Form) (h : i.form = f) (s : State) : exec i s = .next (run f s) := by
  rw [exec_eq_run, h]

end Sys2Proof.Machine
end

