-- ==== Sys2Proof/Tests/DecodeWords.lean ====
section
/-!
SUPPORT. The words of the opcode table. For every row of spec/opcode_table.json one word, written out from the
row's `encoding` pattern with its fields filled in (not with this model's encoder), decodes to the instruction
of the row; a row that is another spelling (`TEST`, `DI`, `EI`, R99) decodes to the basic instruction.
-/

namespace Sys2Proof.Tests

open Sys2Proof


/-- Rows 1 to 45 of the table: `NOP` to `JR CS,a`. -/
theorem test_decode_rows_1_to_45 :
    List.map (fun l => decode (windowOf l))
      [[0x00], [0x04], [0x05], [0x06], [0x07, 0x35, 0xE1], [0x08, 0x7A, 0xB6, 0x4D], [0x09, 0x9C, 0x35],
       [0x0A, 0xE1, 0x7A], [0x0B, 0xB6], [0x0C, 0x4D], [0x0D], [0x0E, 0x9C], [0x0F], [0x12], [0x1F, 0x7A],
       [0x21], [0x2E], [0x33], [0x37, 0x35], [0x3D], [0x3F, 0x7A], [0x47], [0x4C, 0x9C, 0x35], [0x52],
       [0x58, 0xB6], [0x5A, 0x9C], [0x60, 0x35], [0x61, 0xE1], [0x62, 0x7A], [0x63, 0xB6], [0x64, 0x4D],
       [0x65, 0x9C], [0x66, 0x35], [0x67, 0xE1], [0x74], [0x9E], [0xA9], [0xC3, 0x35], [0xC0, 0x3A],
       [0xCD, 0x7A], [0xC8, 0x3A], [0xD2], [0xD8, 0x4D], [0xD9, 0x9C], [0xDA, 0x35]] =
    List.map Decoded.ok
      [.nop, .clrCF, .setCF, .cplCF, .cmpAtXN 0x35 0xE1, .ldwAtXMN 0x7A 0x4DB6, .ldwAtHLMN 0x359C,
       .ldAtXN 0xE1 0x7A, .ldAtHLN 0xB6, .ldAAtX 0x4D, .ldAAtHL, .ldAtXA 0x9C, .ldAtHLA, .ldAR .c,
       .ldRN .h 0x7A, .incR .w, .decR .l, .incRR .hl, .ldSPAddD 0x35, .decRR .iy, .ldSPSubD 0x7A, .ldRA .h,
       .ldRRMN .ix 0x359C, .pushRR .de, .ldCFAtXb 0xB6 0, .ldCFAtXb 0x9C 2, .addcAN 0x35, .addAN 0xE1,
       .subbAN 0x7A, .subAN 0xB6, .andAN 0x4D, .xorAN 0x9C, .orAN 0x35, .cmpAN 0xE1, .callvN 4, .jrsT 30,
       .jrsF 9, .setAtXb 0x35 3, .setAtXb 0x3A 0, .clrAtXb 0x7A 5, .clrAtXb 0x3A 0, .popRR .de, .jrZ 0x4D,
       .jrNZ 0x9C, .jrCS 0x35] :=
  rfl

/-- Rows 46 to 90 of the table: `JR CC,a` to `CMP rr,gg`. -/
theorem test_decode_rows_46_to_90 :
    List.map (fun l => decode (windowOf l))
      [[0xDB, 0xE1], [0xDC, 0x7A], [0xDD, 0xB6], [0xDE, 0x4D], [0xDF, 0x9C], [0xF9, 0x00], [0xF9, 0x02],
       [0xFA], [0xFB], [0xFC, 0x35], [0xFD, 0xE1, 0x7A], [0xFE, 0xB6, 0x4D], [0xFF], [0xED, 0x10],
       [0xEF, 0x60, 0x7A], [0xE9, 0x68, 0x4D, 0x9C], [0xE8, 0xA8], [0xEA, 0x39], [0xEC, 0x61, 0x9C],
       [0xEE, 0x69, 0xE1, 0x7A], [0xED, 0x91], [0xEF, 0x22], [0xE9, 0x62, 0x7A], [0xEB, 0x6A, 0x4D, 0x9C],
       [0xEA, 0xBA], [0xEC, 0x0B], [0xEE, 0x63, 0x9C], [0xE8, 0x6B, 0xE1, 0x7A], [0xEF, 0xA3],
       [0xE9, 0x34], [0xEB, 0x64, 0x7A], [0xED, 0x6C, 0x4D, 0x9C], [0xEC, 0x8C], [0xEE, 0x1D],
       [0xE8, 0x65, 0x9C], [0xEA, 0x6D, 0xE1, 0x7A], [0xE9, 0xB5], [0xEB, 0x06], [0xED, 0x66, 0x7A],
       [0xEF, 0x6E, 0x4D, 0x9C], [0xEE, 0x9E], [0xE8, 0x2F], [0xEA, 0x67, 0x9C], [0xEC, 0x6F, 0xE1, 0x7A],
       [0xEB, 0x87]] =
    List.map Decoded.ok
      [.jrCC 0xE1, .jrLE 0x7A, .jrGT 0xB6, .jrT 0x4D, .jrF 0x9C, .ldRBS0, .ldRBS1, .ret, .reti, .jrA 0x35,
       .callMN 0x7AE1, .jpMN 0x4DB6, .swi, .addcRG .c .d, .addcGN .h 0x7A, .addcGGMN .bc 0x9C4D,
       .addcRRGG .iy .wa, .addRG .h .c, .addGN .e 0x9C, .addGGMN .sp 0x7AE1, .addRRGG .de .iy,
       .subbRG .e .h, .subbGN .w 0x7A, .subbGGMN .hl 0x9C4D, .subbRRGG .hlAlt .de, .subRG .w .e,
       .subGN .l 0x9C, .subGGMN .wa 0x7AE1, .subRRGG .ix .hlAlt, .andRG .l .w, .andGN .b 0x7A,
       .andGGMN .iy 0x9C4D, .andRRGG .bc .ix, .xorRG .b .l, .xorGN .a 0x9C, .xorGGMN .de 0x7AE1,
       .xorRRGG .sp .bc, .orRG .a .b, .orGN .d 0x7A, .orGGMN .hlAlt 0x9C4D, .orRRGG .hl .sp, .cmpRG .d .a,
       .cmpGN .c 0x9C, .cmpGGMN .ix 0x7AE1, .cmpRRGG .wa .hl] :=
  rfl

/-- Rows 91 to 135 of the table: `LD r,g` to `JP gg`. -/
theorem test_decode_rows_91_to_135 :
    List.map (fun l => decode (windowOf l))
      [[0xED, 0x42], [0xEF, 0x4C], [0xE9, 0x56], [0xEB, 0x58], [0xED, 0x5A], [0xEF, 0x74], [0xE9, 0x7E],
       [0xEB, 0xC0], [0xED, 0xCA], [0xE8, 0xD0, 0x9C], [0xE8, 0xD1, 0x35], [0xE8, 0xD2, 0xE1],
       [0xE8, 0xD3, 0x7A], [0xE8, 0xD4, 0xB6], [0xE8, 0xD5, 0x4D], [0xE8, 0xD6, 0x9C], [0xE8, 0xD7, 0x35],
       [0xEC, 0xD8], [0xED, 0xD8], [0xEC, 0xD9], [0xED, 0xD9], [0xEF, 0xDA], [0xEC, 0xDB], [0xE8, 0xDC],
       [0xE8, 0xDD], [0xE8, 0xDE, 0xB6], [0xEE, 0xE3], [0xE8, 0xED], [0xEA, 0xF0], [0xEF, 0xF1],
       [0xE8, 0xF2], [0xE9, 0xF2], [0xEA, 0xF2], [0xEB, 0xF2], [0xE8, 0xF3], [0xEA, 0xF3], [0xEB, 0xF3],
       [0xEC, 0xF4], [0xE9, 0xF5], [0xEE, 0xF6], [0xEB, 0xF7], [0xE8, 0xFA], [0xE8, 0xFB], [0xED, 0xFD],
       [0xEA, 0xFE]] =
    List.map Decoded.ok
      [.ldRG .c .d, .ldRRGG .ix .hlAlt, .xorCFGb .w 6, .ldCFGb .b 0, .ldCFGb .d 2, .xchRG .e .h,
       .xchRRGG .sp .bc, .setGb .b 0, .clrGb .d 2, .jrM 0x9C, .jrP 0x35, .jrSLT 0xE1, .jrSGE 0x7A,
       .jrSLE 0xB6, .jrSGT 0x4D, .jrVS 0x9C, .jrVC 0x35, .pushIX, .pushIY, .popIX, .popIY, .daaG .h,
       .dasG .e, .pushPSW, .popPSW, .ldPSWN 0xB6, .cplGb .l 3, .ldGbCF .a 5, .shlcaGG .de, .shrcaGG .hlAlt,
       .mulWA, .mulBC, .mulDE, .mulHL, .divWAC, .divDEC, .divHLC, .shlcG .e, .shrcG .w, .rolcG .l,
       .rorcG .b, .negCSGG .wa, .retn, .callGG .iy, .jpGG .de] :=
  rfl

/-- Rows 136 to 180 of the table: `SWAP g` to `ADD r,(IX)`. -/
theorem test_decode_rows_136_to_180 :
    List.map (fun l => decode (windowOf l))
      [[0xEF, 0xFF], [0xE0, 0x35, 0x08], [0xE1, 0x7A, 0xB6, 0x00], [0xE2, 0x28], [0xE3, 0x10],
       [0xE4, 0x38], [0xE5, 0x20], [0xE6, 0x08], [0xE7, 0x30], [0xD4, 0x9C, 0x00], [0xD5, 0xE1, 0x10],
       [0xD6, 0xB6, 0x20], [0xD7, 0x9C, 0x30], [0x4F, 0x18], [0xE0, 0x7A, 0x60, 0xB6],
       [0xE1, 0x4D, 0x9C, 0x60, 0x35], [0xE2, 0x60, 0xE1], [0xE3, 0x60, 0x7A], [0xE4, 0x60, 0xB6],
       [0xE5, 0x60, 0x4D], [0xE6, 0x60, 0x9C], [0xE7, 0x60, 0x35], [0xD4, 0xE1, 0x60, 0x7A],
       [0xD5, 0xB6, 0x60, 0x4D], [0xD6, 0x9C, 0x60, 0x35], [0xD7, 0xE1, 0x60, 0x7A], [0x4F, 0x60, 0xB6],
       [0xE0, 0x4D, 0x88], [0xE1, 0x35, 0xE1, 0x80], [0xE2, 0xA8], [0xE3, 0x90], [0xE4, 0xB8],
       [0xE5, 0xA0], [0xE6, 0x88], [0xE7, 0xB0], [0xD4, 0xB6, 0x80], [0xD5, 0x9C, 0x90],
       [0xD6, 0xE1, 0xA0], [0xD7, 0xB6, 0xB0], [0x4F, 0x98], [0xE0, 0x35, 0x29], [0xE1, 0x7A, 0xB6, 0x21],
       [0xE2, 0x09], [0xE3, 0x31], [0xE4, 0x19]] =
    List.map Decoded.ok
      [.swapG .h, .addcRAtX .w 0x35, .addcRAtVW .a 0xB67A, .addcRAtDE .d, .addcRAtHL .c, .addcRAtIX .h,
       .addcRAtIY .e, .addcRAtIncSP .w, .addcRAtHLC .l, .addcRAtIXd .a 0x9C, .addcRAtIYd .c 0xE1,
       .addcRAtSPd .e 0xB6, .addcRAtHLd .l 0x9C, .addcRAtPCA .b, .addcAtXN 0x7A 0xB6,
       .addcAtVWN 0x9C4D 0x35, .addcAtDEN 0xE1, .addcAtHLN 0x7A, .addcAtIXN 0xB6, .addcAtIYN 0x4D,
       .addcAtIncSPN 0x9C, .addcAtHLCN 0x35, .addcAtIXdN 0xE1 0x7A, .addcAtIYdN 0xB6 0x4D,
       .addcAtSPdN 0x9C 0x35, .addcAtHLdN 0xE1 0x7A, .addcAtPCAN 0xB6, .addcRRAtX .bc 0x4D,
       .addcRRAtVW .wa 0xE135, .addcRRAtDE .iy, .addcRRAtHL .de, .addcRRAtIX .hlAlt, .addcRRAtIY .ix,
       .addcRRAtIncSP .bc, .addcRRAtHLC .sp, .addcRRAtIXd .wa 0xB6, .addcRRAtIYd .de 0x9C,
       .addcRRAtSPd .ix 0xE1, .addcRRAtHLd .sp 0xB6, .addcRRAtPCA .hl, .addRAtX .d 0x35,
       .addRAtVW .e 0xB67A, .addRAtDE .w, .addRAtHL .l, .addRAtIX .b] :=
  rfl

/-- Rows 181 to 225 of the table: `ADD r,(IY)` to `SUBB r,(SP+d)`. -/
theorem test_decode_rows_181_to_225 :
    List.map (fun l => decode (windowOf l))
      [[0xE5, 0x01], [0xE6, 0x29], [0xE7, 0x11], [0xD4, 0x9C, 0x21], [0xD5, 0xE1, 0x31],
       [0xD6, 0xB6, 0x01], [0xD7, 0x9C, 0x11], [0x4F, 0x39], [0xE0, 0x7A, 0x61, 0xB6],
       [0xE1, 0x4D, 0x9C, 0x61, 0x35], [0xE2, 0x61, 0xE1], [0xE3, 0x61, 0x7A], [0xE4, 0x61, 0xB6],
       [0xE5, 0x61, 0x4D], [0xE6, 0x61, 0x9C], [0xE7, 0x61, 0x35], [0xD4, 0xE1, 0x61, 0x7A],
       [0xD5, 0xB6, 0x61, 0x4D], [0xD6, 0x9C, 0x61, 0x35], [0xD7, 0xE1, 0x61, 0x7A], [0x4F, 0x61, 0xB6],
       [0xE0, 0x4D, 0xA9], [0xE1, 0x35, 0xE1, 0xA1], [0xE2, 0x89], [0xE3, 0xB1], [0xE4, 0x99],
       [0xE5, 0x81], [0xE6, 0xA9], [0xE7, 0x91], [0xD4, 0xB6, 0xA1], [0xD5, 0x9C, 0xB1],
       [0xD6, 0xE1, 0x81], [0xD7, 0xB6, 0x91], [0x4F, 0xB9], [0xE0, 0x35, 0x0A], [0xE1, 0x7A, 0xB6, 0x02],
       [0xE2, 0x2A], [0xE3, 0x12], [0xE4, 0x3A], [0xE5, 0x22], [0xE6, 0x0A], [0xE7, 0x32],
       [0xD4, 0x9C, 0x02], [0xD5, 0xE1, 0x12], [0xD6, 0xB6, 0x22]] =
    List.map Decoded.ok
      [.addRAtIY .a, .addRAtIncSP .d, .addRAtHLC .c, .addRAtIXd .e 0x9C, .addRAtIYd .l 0xE1,
       .addRAtSPd .a 0xB6, .addRAtHLd .c 0x9C, .addRAtPCA .h, .addAtXN 0x7A 0xB6, .addAtVWN 0x9C4D 0x35,
       .addAtDEN 0xE1, .addAtHLN 0x7A, .addAtIXN 0xB6, .addAtIYN 0x4D, .addAtIncSPN 0x9C, .addAtHLCN 0x35,
       .addAtIXdN 0xE1 0x7A, .addAtIYdN 0xB6 0x4D, .addAtSPdN 0x9C 0x35, .addAtHLdN 0xE1 0x7A,
       .addAtPCAN 0xB6, .addRRAtX .iy 0x4D, .addRRAtVW .ix 0xE135, .addRRAtDE .bc, .addRRAtHL .sp,
       .addRRAtIX .hl, .addRRAtIY .wa, .addRRAtIncSP .iy, .addRRAtHLC .de, .addRRAtIXd .ix 0xB6,
       .addRRAtIYd .sp 0x9C, .addRRAtSPd .wa 0xE1, .addRRAtHLd .de 0xB6, .addRRAtPCA .hlAlt,
       .subbRAtX .w 0x35, .subbRAtVW .a 0xB67A, .subbRAtDE .d, .subbRAtHL .c, .subbRAtIX .h, .subbRAtIY .e,
       .subbRAtIncSP .w, .subbRAtHLC .l, .subbRAtIXd .a 0x9C, .subbRAtIYd .c 0xE1, .subbRAtSPd .e 0xB6] :=
  rfl

/-- Rows 226 to 270 of the table: `SUBB r,(HL+d)` to `SUB (HL),n`. -/
theorem test_decode_rows_226_to_270 :
    List.map (fun l => decode (windowOf l))
      [[0xD7, 0x9C, 0x32], [0x4F, 0x1A], [0xE0, 0x7A, 0x62, 0xB6], [0xE1, 0x4D, 0x9C, 0x62, 0x35],
       [0xE2, 0x62, 0xE1], [0xE3, 0x62, 0x7A], [0xE4, 0x62, 0xB6], [0xE5, 0x62, 0x4D], [0xE6, 0x62, 0x9C],
       [0xE7, 0x62, 0x35], [0xD4, 0xE1, 0x62, 0x7A], [0xD5, 0xB6, 0x62, 0x4D], [0xD6, 0x9C, 0x62, 0x35],
       [0xD7, 0xE1, 0x62, 0x7A], [0x4F, 0x62, 0xB6], [0xE0, 0x4D, 0x8A], [0xE1, 0x35, 0xE1, 0x82],
       [0xE2, 0xAA], [0xE3, 0x92], [0xE4, 0xBA], [0xE5, 0xA2], [0xE6, 0x8A], [0xE7, 0xB2],
       [0xD4, 0xB6, 0x82], [0xD5, 0x9C, 0x92], [0xD6, 0xE1, 0xA2], [0xD7, 0xB6, 0xB2], [0x4F, 0x9A],
       [0xE0, 0x35, 0x2B], [0xE1, 0x7A, 0xB6, 0x23], [0xE2, 0x0B], [0xE3, 0x33], [0xE4, 0x1B],
       [0xE5, 0x03], [0xE6, 0x2B], [0xE7, 0x13], [0xD4, 0x9C, 0x23], [0xD5, 0xE1, 0x33],
       [0xD6, 0xB6, 0x03], [0xD7, 0x9C, 0x13], [0x4F, 0x3B], [0xE0, 0x7A, 0x63, 0xB6],
       [0xE1, 0x4D, 0x9C, 0x63, 0x35], [0xE2, 0x63, 0xE1], [0xE3, 0x63, 0x7A]] =
    List.map Decoded.ok
      [.subbRAtHLd .l 0x9C, .subbRAtPCA .b, .subbAtXN 0x7A 0xB6, .subbAtVWN 0x9C4D 0x35, .subbAtDEN 0xE1,
       .subbAtHLN 0x7A, .subbAtIXN 0xB6, .subbAtIYN 0x4D, .subbAtIncSPN 0x9C, .subbAtHLCN 0x35,
       .subbAtIXdN 0xE1 0x7A, .subbAtIYdN 0xB6 0x4D, .subbAtSPdN 0x9C 0x35, .subbAtHLdN 0xE1 0x7A,
       .subbAtPCAN 0xB6, .subbRRAtX .bc 0x4D, .subbRRAtVW .wa 0xE135, .subbRRAtDE .iy, .subbRRAtHL .de,
       .subbRRAtIX .hlAlt, .subbRRAtIY .ix, .subbRRAtIncSP .bc, .subbRRAtHLC .sp, .subbRRAtIXd .wa 0xB6,
       .subbRRAtIYd .de 0x9C, .subbRRAtSPd .ix 0xE1, .subbRRAtHLd .sp 0xB6, .subbRRAtPCA .hl,
       .subRAtX .d 0x35, .subRAtVW .e 0xB67A, .subRAtDE .w, .subRAtHL .l, .subRAtIX .b, .subRAtIY .a,
       .subRAtIncSP .d, .subRAtHLC .c, .subRAtIXd .e 0x9C, .subRAtIYd .l 0xE1, .subRAtSPd .a 0xB6,
       .subRAtHLd .c 0x9C, .subRAtPCA .h, .subAtXN 0x7A 0xB6, .subAtVWN 0x9C4D 0x35, .subAtDEN 0xE1,
       .subAtHLN 0x7A] :=
  rfl

/-- Rows 271 to 315 of the table: `SUB (IX),n` to `AND (IY+d),n`. -/
theorem test_decode_rows_271_to_315 :
    List.map (fun l => decode (windowOf l))
      [[0xE4, 0x63, 0xB6], [0xE5, 0x63, 0x4D], [0xE6, 0x63, 0x9C], [0xE7, 0x63, 0x35],
       [0xD4, 0xE1, 0x63, 0x7A], [0xD5, 0xB6, 0x63, 0x4D], [0xD6, 0x9C, 0x63, 0x35],
       [0xD7, 0xE1, 0x63, 0x7A], [0x4F, 0x63, 0xB6], [0xE0, 0x4D, 0xAB], [0xE1, 0x35, 0xE1, 0xA3],
       [0xE2, 0x8B], [0xE3, 0xB3], [0xE4, 0x9B], [0xE5, 0x83], [0xE6, 0xAB], [0xE7, 0x93],
       [0xD4, 0xB6, 0xA3], [0xD5, 0x9C, 0xB3], [0xD6, 0xE1, 0x83], [0xD7, 0xB6, 0x93], [0x4F, 0xBB],
       [0xE0, 0x35, 0x0C], [0xE1, 0x7A, 0xB6, 0x04], [0xE2, 0x2C], [0xE3, 0x14], [0xE4, 0x3C],
       [0xE5, 0x24], [0xE6, 0x0C], [0xE7, 0x34], [0xD4, 0x9C, 0x04], [0xD5, 0xE1, 0x14],
       [0xD6, 0xB6, 0x24], [0xD7, 0x9C, 0x34], [0x4F, 0x1C], [0xE0, 0x7A, 0x64, 0xB6],
       [0xE1, 0x4D, 0x9C, 0x64, 0x35], [0xE2, 0x64, 0xE1], [0xE3, 0x64, 0x7A], [0xE4, 0x64, 0xB6],
       [0xE5, 0x64, 0x4D], [0xE6, 0x64, 0x9C], [0xE7, 0x64, 0x35], [0xD4, 0xE1, 0x64, 0x7A],
       [0xD5, 0xB6, 0x64, 0x4D]] =
    List.map Decoded.ok
      [.subAtIXN 0xB6, .subAtIYN 0x4D, .subAtIncSPN 0x9C, .subAtHLCN 0x35, .subAtIXdN 0xE1 0x7A,
       .subAtIYdN 0xB6 0x4D, .subAtSPdN 0x9C 0x35, .subAtHLdN 0xE1 0x7A, .subAtPCAN 0xB6,
       .subRRAtX .iy 0x4D, .subRRAtVW .ix 0xE135, .subRRAtDE .bc, .subRRAtHL .sp, .subRRAtIX .hl,
       .subRRAtIY .wa, .subRRAtIncSP .iy, .subRRAtHLC .de, .subRRAtIXd .ix 0xB6, .subRRAtIYd .sp 0x9C,
       .subRRAtSPd .wa 0xE1, .subRRAtHLd .de 0xB6, .subRRAtPCA .hlAlt, .andRAtX .w 0x35,
       .andRAtVW .a 0xB67A, .andRAtDE .d, .andRAtHL .c, .andRAtIX .h, .andRAtIY .e, .andRAtIncSP .w,
       .andRAtHLC .l, .andRAtIXd .a 0x9C, .andRAtIYd .c 0xE1, .andRAtSPd .e 0xB6, .andRAtHLd .l 0x9C,
       .andRAtPCA .b, .andAtXN 0x7A 0xB6, .andAtVWN 0x9C4D 0x35, .andAtDEN 0xE1, .andAtHLN 0x7A,
       .andAtIXN 0xB6, .andAtIYN 0x4D, .andAtIncSPN 0x9C, .andAtHLCN 0x35, .andAtIXdN 0xE1 0x7A,
       .andAtIYdN 0xB6 0x4D] :=
  rfl

/-- Rows 316 to 360 of the table: `AND (SP+d),n` to `XOR rr,(DE)`. -/
theorem test_decode_rows_316_to_360 :
    List.map (fun l => decode (windowOf l))
      [[0xD6, 0x9C, 0x64, 0x35], [0xD7, 0xE1, 0x64, 0x7A], [0x4F, 0x64, 0xB6], [0xE0, 0x4D, 0x8C],
       [0xE1, 0x35, 0xE1, 0x84], [0xE2, 0xAC], [0xE3, 0x94], [0xE4, 0xBC], [0xE5, 0xA4], [0xE6, 0x8C],
       [0xE7, 0xB4], [0xD4, 0xB6, 0x84], [0xD5, 0x9C, 0x94], [0xD6, 0xE1, 0xA4], [0xD7, 0xB6, 0xB4],
       [0x4F, 0x9C], [0xE0, 0x35, 0x2D], [0xE1, 0x7A, 0xB6, 0x25], [0xE2, 0x0D], [0xE3, 0x35],
       [0xE4, 0x1D], [0xE5, 0x05], [0xE6, 0x2D], [0xE7, 0x15], [0xD4, 0x9C, 0x25], [0xD5, 0xE1, 0x35],
       [0xD6, 0xB6, 0x05], [0xD7, 0x9C, 0x15], [0x4F, 0x3D], [0xE0, 0x7A, 0x65, 0xB6],
       [0xE1, 0x4D, 0x9C, 0x65, 0x35], [0xE2, 0x65, 0xE1], [0xE3, 0x65, 0x7A], [0xE4, 0x65, 0xB6],
       [0xE5, 0x65, 0x4D], [0xE6, 0x65, 0x9C], [0xE7, 0x65, 0x35], [0xD4, 0xE1, 0x65, 0x7A],
       [0xD5, 0xB6, 0x65, 0x4D], [0xD6, 0x9C, 0x65, 0x35], [0xD7, 0xE1, 0x65, 0x7A], [0x4F, 0x65, 0xB6],
       [0xE0, 0x4D, 0xAD], [0xE1, 0x35, 0xE1, 0xA5], [0xE2, 0x8D]] =
    List.map Decoded.ok
      [.andAtSPdN 0x9C 0x35, .andAtHLdN 0xE1 0x7A, .andAtPCAN 0xB6, .andRRAtX .bc 0x4D,
       .andRRAtVW .wa 0xE135, .andRRAtDE .iy, .andRRAtHL .de, .andRRAtIX .hlAlt, .andRRAtIY .ix,
       .andRRAtIncSP .bc, .andRRAtHLC .sp, .andRRAtIXd .wa 0xB6, .andRRAtIYd .de 0x9C,
       .andRRAtSPd .ix 0xE1, .andRRAtHLd .sp 0xB6, .andRRAtPCA .hl, .xorRAtX .d 0x35, .xorRAtVW .e 0xB67A,
       .xorRAtDE .w, .xorRAtHL .l, .xorRAtIX .b, .xorRAtIY .a, .xorRAtIncSP .d, .xorRAtHLC .c,
       .xorRAtIXd .e 0x9C, .xorRAtIYd .l 0xE1, .xorRAtSPd .a 0xB6, .xorRAtHLd .c 0x9C, .xorRAtPCA .h,
       .xorAtXN 0x7A 0xB6, .xorAtVWN 0x9C4D 0x35, .xorAtDEN 0xE1, .xorAtHLN 0x7A, .xorAtIXN 0xB6,
       .xorAtIYN 0x4D, .xorAtIncSPN 0x9C, .xorAtHLCN 0x35, .xorAtIXdN 0xE1 0x7A, .xorAtIYdN 0xB6 0x4D,
       .xorAtSPdN 0x9C 0x35, .xorAtHLdN 0xE1 0x7A, .xorAtPCAN 0xB6, .xorRRAtX .iy 0x4D,
       .xorRRAtVW .ix 0xE135, .xorRRAtDE .bc] :=
  rfl

/-- Rows 361 to 405 of the table: `XOR rr,(HL)` to `OR rr,(IX+d)`. -/
theorem test_decode_rows_361_to_405 :
    List.map (fun l => decode (windowOf l))
      [[0xE3, 0xB5], [0xE4, 0x9D], [0xE5, 0x85], [0xE6, 0xAD], [0xE7, 0x95], [0xD4, 0xB6, 0xA5],
       [0xD5, 0x9C, 0xB5], [0xD6, 0xE1, 0x85], [0xD7, 0xB6, 0x95], [0x4F, 0xBD], [0xE0, 0x35, 0x0E],
       [0xE1, 0x7A, 0xB6, 0x06], [0xE2, 0x2E], [0xE3, 0x16], [0xE4, 0x3E], [0xE5, 0x26], [0xE6, 0x0E],
       [0xE7, 0x36], [0xD4, 0x9C, 0x06], [0xD5, 0xE1, 0x16], [0xD6, 0xB6, 0x26], [0xD7, 0x9C, 0x36],
       [0x4F, 0x1E], [0xE0, 0x7A, 0x66, 0xB6], [0xE1, 0x4D, 0x9C, 0x66, 0x35], [0xE2, 0x66, 0xE1],
       [0xE3, 0x66, 0x7A], [0xE4, 0x66, 0xB6], [0xE5, 0x66, 0x4D], [0xE6, 0x66, 0x9C], [0xE7, 0x66, 0x35],
       [0xD4, 0xE1, 0x66, 0x7A], [0xD5, 0xB6, 0x66, 0x4D], [0xD6, 0x9C, 0x66, 0x35],
       [0xD7, 0xE1, 0x66, 0x7A], [0x4F, 0x66, 0xB6], [0xE0, 0x4D, 0x8E], [0xE1, 0x35, 0xE1, 0x86],
       [0xE2, 0xAE], [0xE3, 0x96], [0xE4, 0xBE], [0xE5, 0xA6], [0xE6, 0x8E], [0xE7, 0xB6],
       [0xD4, 0xB6, 0x86]] =
    List.map Decoded.ok
      [.xorRRAtHL .sp, .xorRRAtIX .hl, .xorRRAtIY .wa, .xorRRAtIncSP .iy, .xorRRAtHLC .de,
       .xorRRAtIXd .ix 0xB6, .xorRRAtIYd .sp 0x9C, .xorRRAtSPd .wa 0xE1, .xorRRAtHLd .de 0xB6,
       .xorRRAtPCA .hlAlt, .orRAtX .w 0x35, .orRAtVW .a 0xB67A, .orRAtDE .d, .orRAtHL .c, .orRAtIX .h,
       .orRAtIY .e, .orRAtIncSP .w, .orRAtHLC .l, .orRAtIXd .a 0x9C, .orRAtIYd .c 0xE1, .orRAtSPd .e 0xB6,
       .orRAtHLd .l 0x9C, .orRAtPCA .b, .orAtXN 0x7A 0xB6, .orAtVWN 0x9C4D 0x35, .orAtDEN 0xE1,
       .orAtHLN 0x7A, .orAtIXN 0xB6, .orAtIYN 0x4D, .orAtIncSPN 0x9C, .orAtHLCN 0x35, .orAtIXdN 0xE1 0x7A,
       .orAtIYdN 0xB6 0x4D, .orAtSPdN 0x9C 0x35, .orAtHLdN 0xE1 0x7A, .orAtPCAN 0xB6, .orRRAtX .bc 0x4D,
       .orRRAtVW .wa 0xE135, .orRRAtDE .iy, .orRRAtHL .de, .orRRAtIX .hlAlt, .orRRAtIY .ix,
       .orRRAtIncSP .bc, .orRRAtHLC .sp, .orRRAtIXd .wa 0xB6] :=
  rfl

/-- Rows 406 to 450 of the table: `OR rr,(IY+d)` to `LD r,(vw)`. -/
theorem test_decode_rows_406_to_450 :
    List.map (fun l => decode (windowOf l))
      [[0xD5, 0x9C, 0x96], [0xD6, 0xE1, 0xA6], [0xD7, 0xB6, 0xB6], [0x4F, 0x9E], [0xE0, 0x35, 0x2F],
       [0xE1, 0x7A, 0xB6, 0x27], [0xE2, 0x0F], [0xE3, 0x37], [0xE4, 0x1F], [0xE5, 0x07], [0xE6, 0x2F],
       [0xE7, 0x17], [0xD4, 0x9C, 0x27], [0xD5, 0xE1, 0x37], [0xD6, 0xB6, 0x07], [0xD7, 0x9C, 0x17],
       [0x4F, 0x3F], [0xE0, 0x7A, 0x67, 0xB6], [0xE1, 0x4D, 0x9C, 0x67, 0x35], [0xE2, 0x67, 0xE1],
       [0xE3, 0x67, 0x7A], [0xE4, 0x67, 0xB6], [0xE5, 0x67, 0x4D], [0xE6, 0x67, 0x9C], [0xE7, 0x67, 0x35],
       [0xD4, 0xE1, 0x67, 0x7A], [0xD5, 0xB6, 0x67, 0x4D], [0xD6, 0x9C, 0x67, 0x35],
       [0xD7, 0xE1, 0x67, 0x7A], [0x4F, 0x67, 0xB6], [0xE0, 0x4D, 0xAF], [0xE1, 0x35, 0xE1, 0xA7],
       [0xE2, 0x8F], [0xE3, 0xB7], [0xE4, 0x9F], [0xE5, 0x87], [0xE6, 0xAF], [0xE7, 0x97],
       [0xD4, 0xB6, 0xA7], [0xD5, 0x9C, 0xB7], [0xD6, 0xE1, 0x87], [0xD7, 0xB6, 0x97], [0x4F, 0xBF],
       [0xE0, 0x35, 0x41], [0xE1, 0x7A, 0xB6, 0x40]] =
    List.map Decoded.ok
      [.orRRAtIYd .de 0x9C, .orRRAtSPd .ix 0xE1, .orRRAtHLd .sp 0xB6, .orRRAtPCA .hl, .cmpRAtX .d 0x35,
       .cmpRAtVW .e 0xB67A, .cmpRAtDE .w, .cmpRAtHL .l, .cmpRAtIX .b, .cmpRAtIY .a, .cmpRAtIncSP .d,
       .cmpRAtHLC .c, .cmpRAtIXd .e 0x9C, .cmpRAtIYd .l 0xE1, .cmpRAtSPd .a 0xB6, .cmpRAtHLd .c 0x9C,
       .cmpRAtPCA .h, .cmpAtXNLong 0x7A 0xB6, .cmpAtVWN 0x9C4D 0x35, .cmpAtDEN 0xE1, .cmpAtHLN 0x7A,
       .cmpAtIXN 0xB6, .cmpAtIYN 0x4D, .cmpAtIncSPN 0x9C, .cmpAtHLCN 0x35, .cmpAtIXdN 0xE1 0x7A,
       .cmpAtIYdN 0xB6 0x4D, .cmpAtSPdN 0x9C 0x35, .cmpAtHLdN 0xE1 0x7A, .cmpAtPCAN 0xB6,
       .cmpRRAtX .iy 0x4D, .cmpRRAtVW .ix 0xE135, .cmpRRAtDE .bc, .cmpRRAtHL .sp, .cmpRRAtIX .hl,
       .cmpRRAtIY .wa, .cmpRRAtIncSP .iy, .cmpRRAtHLC .de, .cmpRRAtIXd .ix 0xB6, .cmpRRAtIYd .sp 0x9C,
       .cmpRRAtSPd .wa 0xE1, .cmpRRAtHLd .de 0xB6, .cmpRRAtPCA .hlAlt, .ldRAtX .w 0x35,
       .ldRAtVW .a 0xB67A] :=
  rfl

/-- Rows 451 to 495 of the table: `LD r,(DE)` to `LD CF,(HL+C).b`. -/
theorem test_decode_rows_451_to_495 :
    List.map (fun l => decode (windowOf l))
      [[0xE2, 0x45], [0xE3, 0x42], [0xE4, 0x47], [0xE5, 0x44], [0xE6, 0x41], [0xE7, 0x46],
       [0xD4, 0x9C, 0x40], [0xD5, 0xE1, 0x42], [0xD6, 0xB6, 0x44], [0xD7, 0x9C, 0x46], [0x4F, 0x43],
       [0xE0, 0x7A, 0x4D], [0xE1, 0x4D, 0x9C, 0x4C], [0xE2, 0x49], [0xE3, 0x4E], [0xE4, 0x4B],
       [0xE5, 0x48], [0xE6, 0x4D], [0xE7, 0x4A], [0xD4, 0xE1, 0x4C], [0xD5, 0xB6, 0x4E],
       [0xD6, 0x9C, 0x48], [0xD7, 0xE1, 0x4A], [0x4F, 0x4B], [0xE0, 0x4D, 0x51], [0xE1, 0x35, 0xE1, 0x50],
       [0xE2, 0x55], [0xE3, 0x52], [0xE4, 0x57], [0xE5, 0x54], [0xE6, 0x51], [0xE7, 0x56],
       [0xD4, 0xB6, 0x50], [0xD5, 0x9C, 0x52], [0xD6, 0xE1, 0x54], [0xD7, 0xB6, 0x56], [0x4F, 0x53],
       [0xE0, 0x35, 0x5D], [0xE1, 0x7A, 0xB6, 0x5C], [0xE2, 0x59], [0xE3, 0x5E], [0xE4, 0x5B],
       [0xE5, 0x58], [0xE6, 0x5D], [0xE7, 0x5A]] =
    List.map Decoded.ok
      [.ldRAtDE .d, .ldRAtHL .c, .ldRAtIX .h, .ldRAtIY .e, .ldRAtIncSP .w, .ldRAtHLC .l, .ldRAtIXd .a 0x9C,
       .ldRAtIYd .c 0xE1, .ldRAtSPd .e 0xB6, .ldRAtHLd .l 0x9C, .ldRAtPCA .b, .ldRRAtX .iy 0x7A,
       .ldRRAtVW .ix 0x9C4D, .ldRRAtDE .bc, .ldRRAtHL .sp, .ldRRAtIX .hl, .ldRRAtIY .wa, .ldRRAtIncSP .iy,
       .ldRRAtHLC .de, .ldRRAtIXd .ix 0xE1, .ldRRAtIYd .sp 0xB6, .ldRRAtSPd .wa 0x9C, .ldRRAtHLd .de 0xE1,
       .ldRRAtPCA .hl, .xorCFAtXb 0x4D 1, .xorCFAtVWb 0xE135 0, .xorCFAtDEb 5, .xorCFAtHLb 2,
       .xorCFAtIXb 7, .xorCFAtIYb 4, .xorCFAtIncSPb 1, .xorCFAtHLCb 6, .xorCFAtIXdb 0xB6 0,
       .xorCFAtIYdb 0x9C 2, .xorCFAtSPdb 0xE1 4, .xorCFAtHLdb 0xB6 6, .xorCFAtPCAb 3, .ldCFAtXbLong 0x35 5,
       .ldCFAtVWb 0xB67A 4, .ldCFAtDEb 1, .ldCFAtHLb 6, .ldCFAtIXb 3, .ldCFAtIYb 0, .ldCFAtIncSPb 5,
       .ldCFAtHLCb 2] :=
  rfl

/-- Rows 496 to 540 of the table: `LD CF,(IX+d).b` to `CLR (x).b`. -/
theorem test_decode_rows_496_to_540 :
    List.map (fun l => decode (windowOf l))
      [[0xD4, 0x9C, 0x5C], [0xD5, 0xE1, 0x5E], [0xD6, 0xB6, 0x58], [0xD7, 0x9C, 0x5A], [0x4F, 0x5F],
       [0xE0, 0x7A, 0x59], [0xE1, 0x4D, 0x9C, 0x58], [0xE2, 0x5D], [0xE3, 0x5A], [0xE4, 0x5F],
       [0xE5, 0x5C], [0xE6, 0x59], [0xE7, 0x5E], [0xD4, 0xE1, 0x58], [0xD5, 0xB6, 0x5A],
       [0xD6, 0x9C, 0x5C], [0xD7, 0xE1, 0x5E], [0x4F, 0x5B], [0xE0, 0x4D, 0x75], [0xE1, 0x35, 0xE1, 0x74],
       [0xE2, 0x71], [0xE3, 0x76], [0xE4, 0x73], [0xE5, 0x70], [0xE6, 0x75], [0xE7, 0x72],
       [0xD4, 0xB6, 0x74], [0xD5, 0x9C, 0x76], [0xD6, 0xE1, 0x70], [0xD7, 0xB6, 0x72], [0x4F, 0x77],
       [0xE0, 0x35, 0xC1], [0xE1, 0x7A, 0xB6, 0xC0], [0xE2, 0xC5], [0xE3, 0xC2], [0xE4, 0xC7],
       [0xE5, 0xC4], [0xE6, 0xC1], [0xE7, 0xC6], [0xD4, 0x9C, 0xC0], [0xD5, 0xE1, 0xC2],
       [0xD6, 0xB6, 0xC4], [0xD7, 0x9C, 0xC6], [0x4F, 0xC3], [0xE0, 0x7A, 0xCD]] =
    List.map Decoded.ok
      [.ldCFAtIXdb 0x9C 4, .ldCFAtIYdb 0xE1 6, .ldCFAtSPdb 0xB6 0, .ldCFAtHLdb 0x9C 2, .ldCFAtPCAb 7,
       .ldCFAtXbLong 0x7A 1, .ldCFAtVWb 0x9C4D 0, .ldCFAtDEb 5, .ldCFAtHLb 2, .ldCFAtIXb 7, .ldCFAtIYb 4,
       .ldCFAtIncSPb 1, .ldCFAtHLCb 6, .ldCFAtIXdb 0xE1 0, .ldCFAtIYdb 0xB6 2, .ldCFAtSPdb 0x9C 4,
       .ldCFAtHLdb 0xE1 6, .ldCFAtPCAb 3, .xchRAtX .d 0x4D, .xchRAtVW .e 0xE135, .xchRAtDE .w,
       .xchRAtHL .l, .xchRAtIX .b, .xchRAtIY .a, .xchRAtIncSP .d, .xchRAtHLC .c, .xchRAtIXd .e 0xB6,
       .xchRAtIYd .l 0x9C, .xchRAtSPd .a 0xE1, .xchRAtHLd .c 0xB6, .xchRAtPCA .h, .setAtXbLong 0x35 1,
       .setAtVWb 0xB67A 0, .setAtDEb 5, .setAtHLb 2, .setAtIXb 7, .setAtIYb 4, .setAtIncSPb 1,
       .setAtHLCb 6, .setAtIXdb 0x9C 0, .setAtIYdb 0xE1 2, .setAtSPdb 0xB6 4, .setAtHLdb 0x9C 6,
       .setAtPCAb 3, .clrAtXbLong 0x7A 5] :=
  rfl

/-- Rows 541 to 585 of the table: `CLR (vw).b` to `LD (+SP).b,CF`. -/
theorem test_decode_rows_541_to_585 :
    List.map (fun l => decode (windowOf l))
      [[0xE1, 0x4D, 0x9C, 0xCC], [0xE2, 0xC9], [0xE3, 0xCE], [0xE4, 0xCB], [0xE5, 0xC8], [0xE6, 0xCD],
       [0xE7, 0xCA], [0xD4, 0xE1, 0xCC], [0xD5, 0xB6, 0xCE], [0xD6, 0x9C, 0xC8], [0xD7, 0xE1, 0xCA],
       [0x4F, 0xCF], [0xE0, 0x4D, 0xD9], [0xE1, 0x35, 0xE1, 0xD8], [0xE2, 0xDD], [0xE3, 0xDA],
       [0xE4, 0xDF], [0xE5, 0xDC], [0xE6, 0xD9], [0xE7, 0xDE], [0xD4, 0xB6, 0xD8], [0xD5, 0x9C, 0xDA],
       [0xD6, 0xE1, 0xDC], [0xD7, 0xB6, 0xDE], [0x4F, 0xDB], [0xE0, 0x35, 0xE5], [0xE1, 0x7A, 0xB6, 0xE4],
       [0xE2, 0xE1], [0xE3, 0xE6], [0xE4, 0xE3], [0xE5, 0xE0], [0xE6, 0xE5], [0xE7, 0xE2],
       [0xD4, 0x9C, 0xE4], [0xD5, 0xE1, 0xE6], [0xD6, 0xB6, 0xE0], [0xD7, 0x9C, 0xE2], [0x4F, 0xE7],
       [0xE0, 0x7A, 0xE9], [0xE1, 0x4D, 0x9C, 0xE8], [0xE2, 0xED], [0xE3, 0xEA], [0xE4, 0xEF],
       [0xE5, 0xEC], [0xE6, 0xE9]] =
    List.map Decoded.ok
      [.clrAtVWb 0x9C4D 4, .clrAtDEb 1, .clrAtHLb 6, .clrAtIXb 3, .clrAtIYb 0, .clrAtIncSPb 5,
       .clrAtHLCb 2, .clrAtIXdb 0xE1 4, .clrAtIYdb 0xB6 6, .clrAtSPdb 0x9C 0, .clrAtHLdb 0xE1 2,
       .clrAtPCAb 7, .xchRRAtX .bc 0x4D, .xchRRAtVW .wa 0xE135, .xchRRAtDE .iy, .xchRRAtHL .de,
       .xchRRAtIX .hlAlt, .xchRRAtIY .ix, .xchRRAtIncSP .bc, .xchRRAtHLC .sp, .xchRRAtIXd .wa 0xB6,
       .xchRRAtIYd .de 0x9C, .xchRRAtSPd .ix 0xE1, .xchRRAtHLd .sp 0xB6, .xchRRAtPCA .hl, .cplAtXb 0x35 5,
       .cplAtVWb 0xB67A 4, .cplAtDEb 1, .cplAtHLb 6, .cplAtIXb 3, .cplAtIYb 0, .cplAtIncSPb 5,
       .cplAtHLCb 2, .cplAtIXdb 0x9C 4, .cplAtIYdb 0xE1 6, .cplAtSPdb 0xB6 0, .cplAtHLdb 0x9C 2,
       .cplAtPCAb 7, .ldAtXbCF 0x7A 1, .ldAtVWbCF 0x9C4D 0, .ldAtDEbCF 5, .ldAtHLbCF 2, .ldAtIXbCF 7,
       .ldAtIYbCF 4, .ldAtIncSPbCF 1] :=
  rfl

/-- Rows 586 to 630 of the table: `LD (HL+C).b,CF` to `LD (PC+A).A,CF`. -/
theorem test_decode_rows_586_to_630 :
    List.map (fun l => decode (windowOf l))
      [[0xE7, 0xEE], [0xD4, 0xE1, 0xE8], [0xD5, 0xB6, 0xEA], [0xD6, 0x9C, 0xEC], [0xD7, 0xE1, 0xEE],
       [0x4F, 0xEB], [0xE0, 0x4D, 0xF0], [0xE1, 0x9C, 0x35, 0xF0], [0xE2, 0xF0], [0xE3, 0xF0],
       [0xE4, 0xF0], [0xE5, 0xF0], [0xE6, 0xF0], [0xE7, 0xF0], [0xD4, 0xE1, 0xF0], [0xD5, 0x7A, 0xF0],
       [0xD6, 0xB6, 0xF0], [0xD7, 0x4D, 0xF0], [0x4F, 0xF0], [0xE0, 0x9C, 0xF2], [0xE1, 0x35, 0xE1, 0xF2],
       [0xE2, 0xF2], [0xE3, 0xF2], [0xE4, 0xF2], [0xE5, 0xF2], [0xE6, 0xF2], [0xE7, 0xF2],
       [0xD4, 0x7A, 0xF2], [0xD5, 0xB6, 0xF2], [0xD6, 0x4D, 0xF2], [0xD7, 0x9C, 0xF2], [0x4F, 0xF2],
       [0xE0, 0x35, 0xF3], [0xE1, 0xE1, 0x7A, 0xF3], [0xE2, 0xF3], [0xE3, 0xF3], [0xE4, 0xF3],
       [0xE5, 0xF3], [0xE6, 0xF3], [0xE7, 0xF3], [0xD4, 0xB6, 0xF3], [0xD5, 0x4D, 0xF3],
       [0xD6, 0x9C, 0xF3], [0xD7, 0x35, 0xF3], [0x4F, 0xF3]] =
    List.map Decoded.ok
      [.ldAtHLCbCF 6, .ldAtIXdbCF 0xE1 0, .ldAtIYdbCF 0xB6 2, .ldAtSPdbCF 0x9C 4, .ldAtHLdbCF 0xE1 6,
       .ldAtPCAbCF 3, .incAtX 0x4D, .incAtVW 0x359C, .incAtDE, .incAtHL, .incAtIX, .incAtIY, .incAtIncSP,
       .incAtHLC, .incAtIXd 0xE1, .incAtIYd 0x7A, .incAtSPd 0xB6, .incAtHLd 0x4D, .incAtPCA,
       .setAtXbitA 0x9C, .setAtVWbitA 0xE135, .setAtDEbitA, .setAtHLbitA, .setAtIXbitA, .setAtIYbitA,
       .setAtIncSPbitA, .setAtHLCbitA, .setAtIXdbitA 0x7A, .setAtIYdbitA 0xB6, .setAtSPdbitA 0x4D,
       .setAtHLdbitA 0x9C, .setAtPCAbitA, .ldAtXbitACF 0x35, .ldAtVWbitACF 0x7AE1, .ldAtDEbitACF,
       .ldAtHLbitACF, .ldAtIXbitACF, .ldAtIYbitACF, .ldAtIncSPbitACF, .ldAtHLCbitACF, .ldAtIXdbitACF 0xB6,
       .ldAtIYdbitACF 0x4D, .ldAtSPdbitACF 0x9C, .ldAtHLdbitACF 0x35, .ldAtPCAbitACF] :=
  rfl

/-- Rows 631 to 675 of the table: `ROLD A,(x)` to `CLR (IY).A`. -/
theorem test_decode_rows_631_to_675 :
    List.map (fun l => decode (windowOf l))
      [[0xE0, 0xE1, 0xF6], [0xE1, 0x7A, 0xB6, 0xF6], [0xE2, 0xF6], [0xE3, 0xF6], [0xE4, 0xF6],
       [0xE5, 0xF6], [0xE6, 0xF6], [0xE7, 0xF6], [0xD4, 0x4D, 0xF6], [0xD5, 0x9C, 0xF6],
       [0xD6, 0x35, 0xF6], [0xD7, 0xE1, 0xF6], [0x4F, 0xF6], [0xE0, 0x7A, 0xF7], [0xE1, 0xB6, 0x4D, 0xF7],
       [0xE2, 0xF7], [0xE3, 0xF7], [0xE4, 0xF7], [0xE5, 0xF7], [0xE6, 0xF7], [0xE7, 0xF7],
       [0xD4, 0x9C, 0xF7], [0xD5, 0x35, 0xF7], [0xD6, 0xE1, 0xF7], [0xD7, 0x7A, 0xF7], [0x4F, 0xF7],
       [0xE0, 0xB6, 0xF8], [0xE1, 0x4D, 0x9C, 0xF8], [0xE2, 0xF8], [0xE3, 0xF8], [0xE4, 0xF8],
       [0xE5, 0xF8], [0xE6, 0xF8], [0xE7, 0xF8], [0xD4, 0x35, 0xF8], [0xD5, 0xE1, 0xF8],
       [0xD6, 0x7A, 0xF8], [0xD7, 0xB6, 0xF8], [0x4F, 0xF8], [0xE0, 0x4D, 0xFA], [0xE1, 0x9C, 0x35, 0xFA],
       [0xE2, 0xFA], [0xE3, 0xFA], [0xE4, 0xFA], [0xE5, 0xFA]] =
    List.map Decoded.ok
      [.roldAAtX 0xE1, .roldAAtVW 0xB67A, .roldAAtDE, .roldAAtHL, .roldAAtIX, .roldAAtIY, .roldAAtIncSP,
       .roldAAtHLC, .roldAAtIXd 0x4D, .roldAAtIYd 0x9C, .roldAAtSPd 0x35, .roldAAtHLd 0xE1, .roldAAtPCA,
       .rordAAtX 0x7A, .rordAAtVW 0x4DB6, .rordAAtDE, .rordAAtHL, .rordAAtIX, .rordAAtIY, .rordAAtIncSP,
       .rordAAtHLC, .rordAAtIXd 0x9C, .rordAAtIYd 0x35, .rordAAtSPd 0xE1, .rordAAtHLd 0x7A, .rordAAtPCA,
       .decAtX 0xB6, .decAtVW 0x9C4D, .decAtDE, .decAtHL, .decAtIX, .decAtIY, .decAtIncSP, .decAtHLC,
       .decAtIXd 0x35, .decAtIYd 0xE1, .decAtSPd 0x7A, .decAtHLd 0xB6, .decAtPCA, .clrAtXbitA 0x4D,
       .clrAtVWbitA 0x359C, .clrAtDEbitA, .clrAtHLbitA, .clrAtIXbitA, .clrAtIYbitA] :=
  rfl

/-- Rows 676 to 720 of the table: `CLR (+SP).A` to `TEST (HL+d).A`. -/
theorem test_decode_rows_676_to_720 :
    List.map (fun l => decode (windowOf l))
      [[0xE6, 0xFA], [0xE7, 0xFA], [0xD4, 0xE1, 0xFA], [0xD5, 0x7A, 0xFA], [0xD6, 0xB6, 0xFA],
       [0xD7, 0x4D, 0xFA], [0x4F, 0xFA], [0xE0, 0x9C, 0xFB], [0xE1, 0x35, 0xE1, 0xFB], [0xE2, 0xFB],
       [0xE3, 0xFB], [0xE4, 0xFB], [0xE5, 0xFB], [0xE6, 0xFB], [0xE7, 0xFB], [0xD4, 0x7A, 0xFB],
       [0xD5, 0xB6, 0xFB], [0xD6, 0x4D, 0xFB], [0xD7, 0x9C, 0xFB], [0x4F, 0xFB], [0xE0, 0x35, 0xFC],
       [0xE1, 0xE1, 0x7A, 0xFC], [0xE2, 0xFC], [0xE3, 0xFC], [0xE4, 0xFC], [0xE5, 0xFC], [0xE6, 0xFC],
       [0xE7, 0xFC], [0xD4, 0xB6, 0xFC], [0xD5, 0x4D, 0xFC], [0xD6, 0x9C, 0xFC], [0xD7, 0x35, 0xFC],
       [0x4F, 0xFC], [0xE0, 0xE1, 0xFC], [0xE1, 0x7A, 0xB6, 0xFC], [0xE2, 0xFC], [0xE3, 0xFC],
       [0xE4, 0xFC], [0xE5, 0xFC], [0xE6, 0xFC], [0xE7, 0xFC], [0xD4, 0x4D, 0xFC], [0xD5, 0x9C, 0xFC],
       [0xD6, 0x35, 0xFC], [0xD7, 0xE1, 0xFC]] =
    List.map Decoded.ok
      [.clrAtIncSPbitA, .clrAtHLCbitA, .clrAtIXdbitA 0xE1, .clrAtIYdbitA 0x7A, .clrAtSPdbitA 0xB6,
       .clrAtHLdbitA 0x4D, .clrAtPCAbitA, .cplAtXbitA 0x9C, .cplAtVWbitA 0xE135, .cplAtDEbitA,
       .cplAtHLbitA, .cplAtIXbitA, .cplAtIYbitA, .cplAtIncSPbitA, .cplAtHLCbitA, .cplAtIXdbitA 0x7A,
       .cplAtIYdbitA 0xB6, .cplAtSPdbitA 0x4D, .cplAtHLdbitA 0x9C, .cplAtPCAbitA, .ldCFAtXbitA 0x35,
       .ldCFAtVWbitA 0x7AE1, .ldCFAtDEbitA, .ldCFAtHLbitA, .ldCFAtIXbitA, .ldCFAtIYbitA, .ldCFAtIncSPbitA,
       .ldCFAtHLCbitA, .ldCFAtIXdbitA 0xB6, .ldCFAtIYdbitA 0x4D, .ldCFAtSPdbitA 0x9C, .ldCFAtHLdbitA 0x35,
       .ldCFAtPCAbitA, .ldCFAtXbitA 0xE1, .ldCFAtVWbitA 0xB67A, .ldCFAtDEbitA, .ldCFAtHLbitA,
       .ldCFAtIXbitA, .ldCFAtIYbitA, .ldCFAtIncSPbitA, .ldCFAtHLCbitA, .ldCFAtIXdbitA 0x4D,
       .ldCFAtIYdbitA 0x9C, .ldCFAtSPdbitA 0x35, .ldCFAtHLdbitA 0xE1] :=
  rfl

/-- Rows 721 to 765 of the table: `TEST (PC+A).A` to `LD (IY),n`. -/
theorem test_decode_rows_721_to_765 :
    List.map (fun l => decode (windowOf l))
      [[0x4F, 0xFC], [0xE0, 0x7A, 0xFD], [0xE1, 0xB6, 0x4D, 0xFD], [0xE2, 0xFD], [0xE3, 0xFD],
       [0xE4, 0xFD], [0xE5, 0xFD], [0xE6, 0xFD], [0xE7, 0xFD], [0xD4, 0x9C, 0xFD], [0xD5, 0x35, 0xFD],
       [0xD6, 0xE1, 0xFD], [0xD7, 0x7A, 0xFD], [0x4F, 0xFD], [0xE0, 0xB6, 0xFE], [0xE1, 0x4D, 0x9C, 0xFE],
       [0xE2, 0xFE], [0xE3, 0xFE], [0xE4, 0xFE], [0xE5, 0xFE], [0xE6, 0xFE], [0xE7, 0xFE],
       [0xD4, 0x35, 0xFE], [0xD5, 0xE1, 0xFE], [0xD6, 0x7A, 0xFE], [0xD7, 0xB6, 0xFE], [0x4F, 0xFE],
       [0xF0, 0x4D, 0x69], [0xF0, 0x35, 0x7B], [0xF0, 0x7A, 0xF9, 0xB6], [0xF1, 0x4D, 0x9C, 0x6C],
       [0xF1, 0xE1, 0x7A, 0x7B], [0xF1, 0x4D, 0x9C, 0xF9, 0x35], [0xF2, 0x6B], [0xF2, 0x7C],
       [0xF2, 0xF9, 0xB6], [0xF3, 0x6E], [0xF3, 0x7B], [0xF3, 0xF9, 0x35], [0xF4, 0x6D], [0xF4, 0x7A],
       [0xF4, 0xF9, 0xB6], [0xF5, 0x6C], [0xF5, 0x79], [0xF5, 0xF9, 0x35]] =
    List.map Decoded.ok
      [.ldCFAtPCAbitA, .callAtX 0x7A, .callAtVW 0x4DB6, .callAtDE, .callAtHL, .callAtIX, .callAtIY,
       .callAtIncSP, .callAtHLC, .callAtIXd 0x9C, .callAtIYd 0x35, .callAtSPd 0xE1, .callAtHLd 0x7A,
       .callAtPCA, .jpAtX 0xB6, .jpAtVW 0x9C4D, .jpAtDE, .jpAtHL, .jpAtIX, .jpAtIY, .jpAtIncSP, .jpAtHLC,
       .jpAtIXd 0x35, .jpAtIYd 0xE1, .jpAtSPd 0x7A, .jpAtHLd 0xB6, .jpAtPCA, .ldAtXRR 0x4D .bc,
       .ldAtXR 0x35 .b, .ldAtXNLong 0x7A 0xB6, .ldAtVWRR 0x9C4D .ix, .ldAtVWR 0x7AE1 .b,
       .ldAtVWN 0x9C4D 0x35, .ldAtDERR .hl, .ldAtDER .e, .ldAtDEN 0xB6, .ldAtHLRR .sp, .ldAtHLR .b,
       .ldAtHLNLong 0x35, .ldAtIXRR .iy, .ldAtIXR .c, .ldAtIXN 0xB6, .ldAtIYRR .ix, .ldAtIYR .w,
       .ldAtIYN 0x35] :=
  rfl

/-- Rows 766 to 783 of the table: `LD (SP-),rr` to `LD (HL+d),n`. -/
theorem test_decode_rows_766_to_783 :
    List.map (fun l => decode (windowOf l))
      [[0xF6, 0x6B], [0xF6, 0x78], [0xF6, 0xF9, 0xB6], [0xF7, 0x6A], [0xF7, 0x7F], [0xF7, 0xF9, 0x35],
       [0x54, 0xE1, 0x6E], [0x54, 0xB6, 0x78], [0x54, 0x9C, 0xF9, 0x35], [0x55, 0xE1, 0x6C],
       [0x55, 0xB6, 0x7E], [0x55, 0x9C, 0xF9, 0x35], [0x56, 0xE1, 0x6A], [0x56, 0xB6, 0x7C],
       [0x56, 0x9C, 0xF9, 0x35], [0x57, 0xE1, 0x68], [0x57, 0xB6, 0x7A], [0x57, 0x9C, 0xF9, 0x35]] =
    List.map Decoded.ok
      [.ldAtSPDecRR .hl, .ldAtSPDecR .a, .ldAtSPDecN 0xB6, .ldAtHLCRR .de, .ldAtHLCR .h, .ldAtHLCN 0x35,
       .ldAtIXdRR 0xE1 .sp, .ldAtIXdR 0xB6 .a, .ldAtIXdN 0x9C 0x35, .ldAtIYdRR 0xE1 .ix, .ldAtIYdR 0xB6 .l,
       .ldAtIYdN 0x9C 0x35, .ldAtSPdRR 0xE1 .de, .ldAtSPdR 0xB6 .e, .ldAtSPdN 0x9C 0x35,
       .ldAtHLdRR 0xE1 .wa, .ldAtHLdR 0xB6 .c, .ldAtHLdN 0x9C 0x35] :=
  rfl

end Sys2Proof.Tests
end

