-- ==== Sys2Proof/Tests/Slice0.lean ====
section
/-!
SUPPORT. Tests of the model: the ill-formed terms that WellFormed refuses, a selection of the spec's test vectors
(95_test_vectors.md; each expected value is the vector's), the host's events, and for every obligation with
hypotheses a concrete state and operands that meet them. The words of all rows are in Tests/DecodeWords.lean.
-/

namespace Sys2Proof.Tests

open Sys2Proof Sys2Proof.Machine

/-! ## WellFormed refuses code 7 of a 16-bit register where the encoding has no such row (R23, R84, R111) -/

theorem test_wf_refuses_step_and_immediate :
    [Instr.incRR .hlAlt, .decRR .hlAlt, .ldRRMN .hlAlt 0x1234, .ldRRGG .hlAlt .wa, .xchRRGG .hlAlt .wa].map
      Instr.wf = List.replicate 5 false := by decide

theorem test_wf_refuses_load_from_memory :
    [Instr.ldRRAtX .hlAlt 0, .ldRRAtVW .hlAlt 0, .ldRRAtDE .hlAlt, .ldRRAtHL .hlAlt, .ldRRAtIX .hlAlt,
      .ldRRAtIY .hlAlt, .ldRRAtIncSP .hlAlt, .ldRRAtHLC .hlAlt, .ldRRAtIXd .hlAlt 0, .ldRRAtIYd .hlAlt 0,
      .ldRRAtSPd .hlAlt 0, .ldRRAtHLd .hlAlt 0, .ldRRAtPCA .hlAlt].map Instr.wf =
    List.replicate 13 false := by decide

theorem test_wf_refuses_store_to_memory :
    [Instr.ldAtXRR 0 .hlAlt, .ldAtVWRR 0 .hlAlt, .ldAtDERR .hlAlt, .ldAtHLRR .hlAlt, .ldAtIXRR .hlAlt,
      .ldAtIYRR .hlAlt, .ldAtSPDecRR .hlAlt, .ldAtHLCRR .hlAlt, .ldAtIXdRR 0 .hlAlt, .ldAtIYdRR 0 .hlAlt,
      .ldAtSPdRR 0 .hlAlt, .ldAtHLdRR 0 .hlAlt].map Instr.wf = List.replicate 12 false := by decide

theorem test_wf_accepts_sp_and_hlAlt_where_encoded :
    [Instr.incRR .sp, .ldRRMN .sp 0xFFFF, .ldRRGG .wa .hlAlt, .ldRRAtX .sp 0, .ldAtXRR 0 .sp, .addRRGG .hlAlt .hlAlt,
      .xchRRAtX .hlAlt 0].map Instr.wf = List.replicate 7 true := by decide

/-! ## The spec's test vectors -/

/-- All flags 0. -/
def flags0 : Psw :=
  { jf := false, zf := false, cf := false, hf := false, sf := false, vf := false, rbs := false }

/-- The vectors' start state: everything 0 but the instruction's bytes at `pc`. -/
def start (pc : Word) (bytes : List Byte) : State := placeWindow (State.reset.withPc pc) (windowOf bytes)

/-- A code byte set by the host. -/
def withCodeByte (s : State) (a : Word) (v : Byte) : State := s.withCode (codePut s.code a v)

/-- What `f` sees after one step, if there is a next state. -/
noncomputable def after {α : Type} (s : State) (f : State → α) : Option α :=
  match step s with
  | .next t => some (f t)
  | _ => none

/-- E5: `LD A,(IX+0xD6)`. -/
theorem test_e5_ld_a_ix_plus_0xd6 :
    after (((start 0x8000 [0xD4, 0xD6, 0x40]).withBank0 { Bank.zero with ix := 0x0123 }).withData
        [(0x00F9, 0x27)])
      (fun t => (t.bank.a, t.pc, t.psw.jf)) =
    some (0x27, 0x8003, true) := by decide

/-- E6: `LD A,(HL+C)`. -/
theorem test_e6_ld_a_hl_plus_c :
    after (((start 0x8000 [0xE7, 0x40]).withBank0
        { Bank.zero with h := 0x01, l := 0x23, c := 0xF5 }).withData [(0x0118, 0x36)])
      (fun t => (t.bank.a, t.pc, t.psw.jf)) =
    some (0x36, 0x8002, true) := by decide

/-- E7: `LD A,(+SP)`. -/
theorem test_e7_ld_a_plus_sp :
    after (((start 0x8000 [0xE6, 0x40]).withSp 0x431F).withData [(0x4320, 0xB7)])
      (fun t => (t.bank.a, t.sp, t.pc, t.psw.jf)) =
    some (0xB7, 0x4320, 0x8002, true) := by decide

/-- E8: `LD (SP-),A`. -/
theorem test_e8_ld_sp_minus_a :
    after (((start 0x8000 [0xF6, 0x78]).withBank0 { Bank.zero with a := 0x1C }).withSp 0x3000)
      (fun t => (t.sp, t.pc, t.psw.jf, memRead8 t 0x3000)) =
    some (0x2FFF, 0x8002, true, 0x1C) := by decide

/-- E9: `LD WA,(SP+0xD6)`. -/
theorem test_e9_ld_wa_sp_plus_0xd6 :
    after (((start 0x8000 [0xD6, 0xD6, 0x48]).withSp 0x1234).withData [(0x120A, 0x27), (0x120B, 0x4E)])
      (fun t => (t.bank.a, t.bank.w, t.pc, t.psw.jf)) =
    some (0x27, 0x4E, 0x8003, true) := by decide

/-- E10: `LD A,(PC+A)`. -/
theorem test_e10_ld_a_pc_plus_a :
    after (((start 0xC536 [0x4F, 0x40]).withBank0 { Bank.zero with a := 0x07 }).withData [(0xC53F, 0xD8)])
      (fun t => (t.bank.a, t.pc, t.psw.jf)) =
    some (0xD8, 0xC538, true) := by decide

/-- E20: `JRS T,0xE859`. -/
theorem test_e20_jrs_t_0xe859 :
    after ((start 0xE863 [0x94]).withPsw { flags0 with jf := true })
      (fun t => t.pc) =
    some 0xE859 := by decide

/-- E22: `CALLV 0x9`. -/
theorem test_e22_callv_0x9 :
    after (withCodeByte (withCodeByte ((start 0x8000 [0x79]).withSp 0x0200) 0xFFB2 0x73) 0xFFB3 0xE0)
      (fun t => (t.sp, t.pc, memRead8 t 0x0200, memRead8 t 0x01FF)) =
    some (0x01FE, 0xE073, 0x80, 0x01) := by decide

/-- E27: `SET (HL).A`. -/
theorem test_e27_set_hl_a :
    after (((start 0x8000 [0xE3, 0xF2]).withBank0
        { Bank.zero with h := 0x01, l := 0x23, a := 0x04 }).withData [(0x0123, 0xC6)])
      (fun t => (t.pc, t.psw.jf, t.psw.zf, memRead8 t 0x0123)) =
    some (0x8002, true, true, 0xD6) := by decide

/-- E31: `LD WA,(0x72)`. -/
theorem test_e31_ld_wa_0x72 :
    after ((start 0x8000 [0xE0, 0x72, 0x48]).withData [(0x0072, 0x8E), (0x0073, 0x59)])
      (fun t => (t.bank.a, t.bank.w, t.pc, t.psw.jf)) =
    some (0x8E, 0x59, 0x8003, true) := by decide

/-- E35: `LDW (0x73),0x1234`. -/
theorem test_e35_ldw_0x73_0x1234 :
    after (start 0x8000 [0x08, 0x73, 0x34, 0x12])
      (fun t => (t.pc, t.psw.jf, memRead8 t 0x0073, memRead8 t 0x0074)) =
    some (0x8004, true, 0x34, 0x12) := by decide

/-- E36: `PUSH WA`. -/
theorem test_e36_push_wa :
    after (((start 0x8000 [0x50]).withBank0 { Bank.zero with w := 0x12, a := 0x34 }).withSp 0x013F)
      (fun t => (t.sp, t.pc, memRead8 t 0x013F, memRead8 t 0x013E)) =
    some (0x013D, 0x8001, 0x12, 0x34) := by decide

/-- E39: `POP PSW`. -/
theorem test_e39_pop_psw :
    after (((start 0x8000 [0xE8, 0xDD]).withSp 0x0136).withData [(0x0137, 0x63)])
      (fun t => (t.sp, t.pc, t.psw.zf, t.psw.cf, t.psw.rbs)) =
    some (0x0137, 0x8002, true, true, true) := by decide

/-- E40: `LD PSW,0x34`. -/
theorem test_e40_ld_psw_0x34 :
    after (start 0x8000 [0xE8, 0xDE, 0x34])
      (fun t => (t.pc, t.psw.cf, t.psw.hf, t.psw.vf)) =
    some (0x8003, true, true, true) := by decide

/-- E43: `XCH HL,DE`. -/
theorem test_e43_xch_hl_de :
    after ((start 0x8000 [0xEA, 0x7B]).withBank0 { Bank.zero with h := 0x01, l := 0x23, d := 0x95, e := 0x87 })
      (fun t => (t.bank.d, t.bank.e, t.bank.h, t.bank.l, t.pc, t.psw.jf)) =
    some (0x01, 0x23, 0x95, 0x87, 0x8002, true) := by decide

/-- E53: `DEC L`. -/
theorem test_e53_dec_l :
    after (((start 0x8000 [0x2E]).withBank0 { Bank.zero with l := 0x00 }).withPsw { flags0 with zf := true })
      (fun t => (t.bank.l, t.pc, t.psw.jf, t.psw.zf)) =
    some (0xFF, 0x8001, true, false) := by decide

/-- E57: `SUB A,B`. -/
theorem test_e57_sub_a_b :
    after (((start 0x8000 [0xEB, 0x03]).withBank0 { Bank.zero with a := 0x87, b := 0x39 }).withPsw
        { flags0 with cf := true })
      (fun t => (t.bank.a, t.pc, t.psw.cf, t.psw.hf, t.psw.vf)) =
    some (0x4E, 0x8002, false, true, true) := by decide

/-- E58: `DAS A`. -/
theorem test_e58_das_a :
    after (((start 0x8000 [0xE8, 0xDB]).withBank0 { Bank.zero with a := 0x4E }).withPsw
        { flags0 with hf := true })
      (fun t => (t.bank.a, t.pc)) =
    some (0x48, 0x8002) := by decide

/-- E59: `MUL W,A`. -/
theorem test_e59_mul_w_a :
    after (((start 0x8000 [0xE8, 0xF2]).withBank0 { Bank.zero with w := 0x87, a := 0xF2 }).withPsw
        { flags0 with zf := true })
      (fun t => (t.bank.a, t.bank.w, t.pc, t.psw.zf)) =
    some (0x9E, 0x7F, 0x8002, false) := by decide

/-- E61: `DIV WA,C`. -/
theorem test_e61_div_wa_c :
    after (((start 0x8000 [0xE8, 0xF3]).withBank0
        { Bank.zero with w := 0x12, a := 0x34, c := 0x56 }).withPsw { flags0 with cf := true, zf := true })
      (fun t => (t.bank.a, t.bank.w, t.pc, t.psw.zf, t.psw.cf)) =
    some (0x36, 0x10, 0x8002, false, false) := by decide

/-- E64: `NEG CS,HL`. -/
theorem test_e64_neg_cs_hl :
    after (((start 0x8000 [0xEB, 0xFA]).withBank0 { Bank.zero with h := 0x56, l := 0x78 }).withPsw
        { flags0 with cf := true })
      (fun t => (t.bank.h, t.bank.l, t.pc, t.psw.jf)) =
    some (0xA9, 0x88, 0x8002, true) := by decide

/-- T1: `LD A,B`. -/
theorem test_t1_ld_a_b :
    after ((start 0x8000 [0x13]).withBank0 { Bank.zero with b := 0x00, a := 0x55 })
      (fun t => (t.bank.a, t.pc, t.psw.jf, t.psw.zf)) =
    some (0x00, 0x8001, true, true) := by decide

/-- T2: `LD B,0x00`. -/
theorem test_t2_ld_b_0x00 :
    after ((start 0x8000 [0x1B, 0x00]).withBank0 { Bank.zero with b := 0x77 })
      (fun t => (t.bank.b, t.pc, t.psw.jf)) =
    some (0x00, 0x8002, true) := by decide

/-- T3: `LD C,(HL+C)`. -/
theorem test_t3_ld_c_hl_plus_c :
    after (((start 0x8000 [0xE7, 0x42]).withBank0
        { Bank.zero with h := 0x02, l := 0x00, c := 0x80 }).withData [])
      (fun t => (t.bank.c, t.pc, t.psw.jf, t.psw.zf)) =
    some (0x00, 0x8002, true, true) := by decide

/-- T4: `LD (0x1234),E`. -/
theorem test_t4_ld_0x1234_e :
    after (((start 0x8000 [0xF1, 0x34, 0x12, 0x7C]).withBank0 { Bank.zero with e := 0xA5 }).withPsw
        { flags0 with zf := true })
      (fun t => (t.pc, t.psw.jf, memRead8 t 0x1234)) =
    some (0x8004, true, 0xA5) := by decide

/-- T5: `LD (HL+0xFE),BC`. -/
theorem test_t5_ld_hl_plus_0xfe_bc :
    after ((start 0x8000 [0x57, 0xFE, 0x69]).withBank0
        { Bank.zero with h := 0x03, l := 0x01, b := 0xBE, c := 0xEF })
      (fun t => (t.pc, t.psw.jf, memRead8 t 0x02FF, memRead8 t 0x0300)) =
    some (0x8003, true, 0xEF, 0xBE) := by decide

/-- T6: `LD (SP-),WA`. -/
theorem test_t6_ld_sp_minus_wa :
    after (((start 0x8000 [0xF6, 0x68]).withBank0 { Bank.zero with w := 0xBE, a := 0xEF }).withSp 0x0200)
      (fun t => (t.sp, t.pc, t.psw.jf, memRead8 t 0x0200, memRead8 t 0x0201)) =
    some (0x01FF, 0x8002, true, 0xEF, 0xBE) := by decide

/-- T7: `LD (SP-),0x5A`. -/
theorem test_t7_ld_sp_minus_0x5a :
    after ((start 0x8000 [0xF6, 0xF9, 0x5A]).withSp 0x0200)
      (fun t => (t.sp, t.pc, t.psw.jf, memRead8 t 0x0200)) =
    some (0x01FF, 0x8003, true, 0x5A) := by decide

/-- T9: `POP IY`. -/
theorem test_t9_pop_iy :
    after (((start 0x8000 [0xED, 0xD9]).withSp 0xFFFF).withData [(0x0000, 0xCD), (0x0001, 0xAB)])
      (fun t => (t.bank.iy, t.sp, t.pc)) =
    some (0xABCD, 0x0001, 0x8002) := by decide

/-- T10: `LD RBS,1`. -/
theorem test_t10_ld_rbs_1 :
    after ((start 0x8000 [0xF9, 0x02]).withBank0 { Bank.zero with a := 0x11 })
      (fun t => (t.bank.a, t.pc, t.psw.rbs)) =
    some (0x00, 0x8002, true) := by decide

/-- T11: `LD SP,SP-5`. -/
theorem test_t11_ld_sp_sp_minus_5 :
    after ((start 0x8000 [0x3F, 0x05]).withSp 0x0002)
      (fun t => (t.sp, t.pc, t.psw.jf)) =
    some (0xFFFD, 0x8002, true) := by decide

/-- T12: `LD SP,SP+0xFF`. -/
theorem test_t12_ld_sp_sp_plus_0xff :
    after ((start 0x8000 [0x37, 0xFF]).withSp 0x0100)
      (fun t => (t.sp, t.pc, t.psw.jf)) =
    some (0x01FF, 0x8002, true) := by decide

/-- T13: `XCH A,(0x40)`. -/
theorem test_t13_xch_a_0x40 :
    after (((start 0x8000 [0xE0, 0x40, 0x70]).withBank0 { Bank.zero with a := 0x7E }).withData [])
      (fun t => (t.bank.a, t.pc, t.psw.jf, t.psw.zf, memRead8 t 0x0040)) =
    some (0x00, 0x8003, true, true, 0x7E) := by decide

/-- T14: `XCH WA,(HL)`. -/
theorem test_t14_xch_wa_hl :
    after (((start 0x8000 [0xE3, 0xD8]).withBank0
        { Bank.zero with w := 0x12, a := 0x34, h := 0x03, l := 0x00 }).withData [(0x0300, 0x78), (0x0301, 0x56)])
      (fun t => (t.bank.a, t.bank.w, t.pc, t.psw.jf, memRead8 t 0x0300, memRead8 t 0x0301)) =
    some (0x78, 0x56, 0x8002, true, 0x34, 0x12) := by decide

/-- T16: `LD (0x3A),A`. -/
theorem test_t16_ld_0x3a_a :
    after ((start 0x8000 [0x0E, 0x3A]).withBank0 { Bank.zero with a := 0x01 })
      (fun t => (t.pc, t.psw.jf, t.imf, memRead8 t 0x003A)) =
    some (0x8002, true, true, 0x01) := by decide

/-- T17: `LD A,(0x3A)`. -/
theorem test_t17_ld_a_0x3a :
    after ((start 0x8000 [0x0C, 0x3A]).withImf true)
      (fun t => (t.bank.a, t.pc, t.psw.jf)) =
    some (0x01, 0x8002, true) := by decide

/-- T21: `LD PSW,0xFF`. -/
theorem test_t21_ld_psw_0xff :
    after (start 0x8000 [0xE8, 0xDE, 0xFF])
      (fun t => (t.psw, t.pc)) =
    some ({ jf := true, zf := true, cf := true, hf := true, sf := true, vf := true, rbs := true }, 0x8003) := by decide

/-- T22: `XCH C,C`. -/
theorem test_t22_xch_c_c :
    after ((start 0x8000 [0xEA, 0x72]).withBank0 { Bank.zero with c := 0x00 })
      (fun t => (t.pc, t.psw.jf, t.psw.zf)) =
    some (0x8002, true, true) := by decide

/-- A1: `ADD A,0x01`. -/
theorem test_a1_add_a_0x01 :
    after ((start 0x8000 [0x61, 0x01]).withBank0 { Bank.zero with a := 0x7F })
      (fun t => (t.bank.a, t.pc, t.psw.hf, t.psw.sf, t.psw.vf)) =
    some (0x80, 0x8002, true, true, true) := by decide

/-- A3: `ADDC A,0x00`. -/
theorem test_a3_addc_a_0x00 :
    after (((start 0x8000 [0x60, 0x00]).withBank0 { Bank.zero with a := 0x0F }).withPsw
        { flags0 with cf := true })
      (fun t => (t.bank.a, t.pc, t.psw.cf, t.psw.hf)) =
    some (0x10, 0x8002, false, true) := by decide

/-- A4: `SUB A,0x01`. -/
theorem test_a4_sub_a_0x01 :
    after ((start 0x8000 [0x63, 0x01]).withBank0 { Bank.zero with a := 0x00 })
      (fun t => (t.bank.a, t.pc, t.psw.jf, t.psw.cf, t.psw.hf, t.psw.sf)) =
    some (0xFF, 0x8002, true, true, true, true) := by decide

/-- A5: `SUB A,0x01`. -/
theorem test_a5_sub_a_0x01 :
    after ((start 0x8000 [0x63, 0x01]).withBank0 { Bank.zero with a := 0x80 })
      (fun t => (t.bank.a, t.pc, t.psw.hf, t.psw.vf)) =
    some (0x7F, 0x8002, true, true) := by decide

/-- A6: `SUBB A,0x0F`. -/
theorem test_a6_subb_a_0x0f :
    after (((start 0x8000 [0x62, 0x0F]).withBank0 { Bank.zero with a := 0x10 }).withPsw
        { flags0 with cf := true })
      (fun t => (t.bank.a, t.pc, t.psw.zf, t.psw.cf, t.psw.hf)) =
    some (0x00, 0x8002, true, false, true) := by decide

/-- A8: `CMP A,0x43`. -/
theorem test_a8_cmp_a_0x43 :
    after ((start 0x8000 [0x67, 0x43]).withBank0 { Bank.zero with a := 0x42 })
      (fun t => (t.pc, t.psw.cf, t.psw.hf, t.psw.sf)) =
    some (0x8002, true, true, true) := by decide

/-- A9: `CMP (0x20),0x10`. -/
theorem test_a9_cmp_0x20_0x10 :
    after ((start 0x8000 [0x07, 0x20, 0x10]).withData [(0x0020, 0x80)])
      (fun t => (t.pc, t.psw.vf)) =
    some (0x8003, true) := by decide

/-- A10: `AND A,0x0F`. -/
theorem test_a10_and_a_0x0f :
    after (((start 0x8000 [0x64, 0x0F]).withBank0 { Bank.zero with a := 0xF0 }).withPsw
        { flags0 with cf := true, sf := true })
      (fun t => (t.bank.a, t.pc, t.psw.jf, t.psw.zf)) =
    some (0x00, 0x8002, true, true) := by decide

/-- A13: `ADD HL,DE`. -/
theorem test_a13_add_hl_de :
    after ((start 0x8000 [0xEA, 0x99]).withBank0 { Bank.zero with h := 0x7F, l := 0xFF, d := 0x00, e := 0x01 })
      (fun t => (t.bank.h, t.bank.l, t.pc, t.psw.sf, t.psw.vf)) =
    some (0x80, 0x00, 0x8002, true, true) := by decide

/-- A15: `CMP HL,(IX+0x02)`. -/
theorem test_a15_cmp_hl_ix_plus_0x02 :
    after (((start 0x8000 [0xD4, 0x02, 0xBF]).withBank0
        { Bank.zero with h := 0x10, l := 0x00, ix := 0x0300 }).withData [(0x0303, 0x10)])
      (fun t => (t.pc, t.psw.jf, t.psw.zf)) =
    some (0x8003, true, true) := by decide

/-- A17: `ADD (HL),0x01`. -/
theorem test_a17_add_hl_0x01 :
    after (((start 0x8000 [0xE3, 0x61, 0x01]).withBank0 { Bank.zero with h := 0x03, l := 0x00 }).withData
        [(0x0300, 0xFF)])
      (fun t => (t.pc, t.psw.jf, t.psw.zf, t.psw.cf, t.psw.hf, memRead8 t 0x0300)) =
    some (0x8003, true, true, true, true, 0x00) := by decide

/-- A19: `INC (0x50)`. -/
theorem test_a19_inc_0x50 :
    after ((start 0x8000 [0xE0, 0x50, 0xF0]).withData [(0x0050, 0xFF)])
      (fun t => (t.pc, t.psw.jf, t.psw.zf, memRead8 t 0x0050)) =
    some (0x8003, true, true, 0x00) := by decide

/-- A20: `DEC (HL)`. -/
theorem test_a20_dec_hl :
    after (((start 0x8000 [0xE3, 0xF8]).withBank0 { Bank.zero with h := 0x03, l := 0x00 }).withData [])
      (fun t => (t.pc, t.psw.jf, memRead8 t 0x0300)) =
    some (0x8002, true, 0xFF) := by decide

/-- A21: `DEC B`. -/
theorem test_a21_dec_b :
    after (((start 0x8000 [0x2B]).withBank0 { Bank.zero with b := 0x01 }).withPsw { flags0 with jf := true })
      (fun t => (t.bank.b, t.pc, t.psw.jf, t.psw.zf)) =
    some (0x00, 0x8001, false, true) := by decide

/-- A22: `INC SP`. -/
theorem test_a22_inc_sp :
    after ((start 0x8000 [0x36]).withSp 0xFFFF)
      (fun t => (t.sp, t.pc, t.psw.jf, t.psw.zf)) =
    some (0x0000, 0x8001, true, true) := by decide

/-- A23: `DAA A`. -/
theorem test_a23_daa_a :
    after (((start 0x8000 [0xE8, 0xDA]).withBank0 { Bank.zero with a := 0x32 }).withPsw
        { flags0 with cf := true, hf := true })
      (fun t => (t.bank.a, t.pc, t.psw.jf, t.psw.hf)) =
    some (0x98, 0x8002, true, false) := by decide

/-- A25: `DAS A`. -/
theorem test_a25_das_a :
    after (((start 0x8000 [0xE8, 0xDB]).withBank0 { Bank.zero with a := 0xDE }).withPsw
        { flags0 with cf := true, hf := true })
      (fun t => (t.bank.a, t.pc, t.psw.jf)) =
    some (0x78, 0x8002, true) := by decide

/-- A28: `MUL B,C`. -/
theorem test_a28_mul_b_c :
    after ((start 0x8000 [0xE9, 0xF2]).withBank0 { Bank.zero with b := 0x00, c := 0x7B })
      (fun t => (t.bank.c, t.pc, t.psw.jf, t.psw.zf)) =
    some (0x00, 0x8002, true, true) := by decide

/-- A30: `DIV DE,C`. -/
theorem test_a30_div_de_c :
    after ((start 0x8000 [0xEA, 0xF3]).withBank0 { Bank.zero with d := 0x12, e := 0x34, c := 0x00 })
      (fun t => (t.pc, t.psw.cf)) =
    some (0x8002, true) := by decide

/-- A32: `DIV WA,C`. -/
theorem test_a32_div_wa_c :
    after ((start 0x8000 [0xE8, 0xF3]).withBank0 { Bank.zero with w := 0xFE, a := 0xFF, c := 0xFF })
      (fun t => t.pc) =
    some 0x8002 := by decide

/-- A33: `NEG CS,WA`. -/
theorem test_a33_neg_cs_wa :
    after (((start 0x8000 [0xE8, 0xFA]).withBank0 { Bank.zero with w := 0x80, a := 0x00 }).withPsw
        { flags0 with cf := true })
      (fun t => (t.pc, t.psw.jf)) =
    some (0x8002, true) := by decide

/-- S1: `SHLC B`. -/
theorem test_s1_shlc_b :
    after ((start 0x8000 [0xEB, 0xF4]).withBank0 { Bank.zero with b := 0x80 })
      (fun t => (t.bank.b, t.pc, t.psw.jf, t.psw.zf, t.psw.cf)) =
    some (0x00, 0x8002, true, true, true) := by decide

/-- S2: `SHRC A`. -/
theorem test_s2_shrc_a :
    after ((start 0x8000 [0xE8, 0xF5]).withBank0 { Bank.zero with a := 0x01 })
      (fun t => (t.bank.a, t.pc, t.psw.jf, t.psw.zf, t.psw.cf)) =
    some (0x00, 0x8002, true, true, true) := by decide

/-- S3: `ROLC A`. -/
theorem test_s3_rolc_a :
    after (((start 0x8000 [0xE8, 0xF6]).withBank0 { Bank.zero with a := 0x00 }).withPsw
        { flags0 with cf := true })
      (fun t => (t.bank.a, t.pc, t.psw.cf)) =
    some (0x01, 0x8002, false) := by decide

/-- S4: `RORC A`. -/
theorem test_s4_rorc_a :
    after (((start 0x8000 [0xE8, 0xF7]).withBank0 { Bank.zero with a := 0xB6 }).withPsw
        { flags0 with cf := true })
      (fun t => (t.bank.a, t.pc, t.psw.cf)) =
    some (0xDB, 0x8002, false) := by decide

/-- S7: `SHLCA HL`. -/
theorem test_s7_shlca_hl :
    after ((start 0x8000 [0xEF, 0xF0]).withBank0 { Bank.zero with h := 0x80, l := 0x00 })
      (fun t => (t.bank.h, t.pc, t.psw.jf, t.psw.zf, t.psw.cf, t.psw.vf)) =
    some (0x00, 0x8002, true, true, true, true) := by decide

/-- S8: `SHRCA BC`. -/
theorem test_s8_shrca_bc :
    after (((start 0x8000 [0xE9, 0xF1]).withBank0 { Bank.zero with b := 0x00, c := 0x01 }).withPsw
        { flags0 with vf := true })
      (fun t => (t.bank.c, t.pc, t.psw.jf, t.psw.zf, t.psw.cf, t.psw.vf)) =
    some (0x00, 0x8002, true, true, true, false) := by decide

/-- S9: `SHRCA IX`. -/
theorem test_s9_shrca_ix :
    after ((start 0x8000 [0xEC, 0xF1]).withBank0 { Bank.zero with ix := 0xFFFF })
      (fun t => (t.pc, t.psw.jf, t.psw.cf, t.psw.sf)) =
    some (0x8002, true, true, true) := by decide

/-- S10: `SWAP C`. -/
theorem test_s10_swap_c :
    after ((start 0x8000 [0xEA, 0xFF]).withBank0 { Bank.zero with c := 0x00 })
      (fun t => (t.pc, t.psw.jf)) =
    some (0x8002, true) := by decide

/-- S11: `ROLD A,(HL)`. -/
theorem test_s11_rold_a_hl :
    after (((start 0x8000 [0xE3, 0xF6]).withBank0
        { Bank.zero with a := 0xAB, h := 0x03, l := 0x00 }).withData [(0x0300, 0xCD)])
      (fun t => (t.bank.a, t.pc, t.psw.jf, memRead8 t 0x0300)) =
    some (0xAC, 0x8002, true, 0xDB) := by decide

/-- S12: `RORD A,(HL)`. -/
theorem test_s12_rord_a_hl :
    after (((start 0x8000 [0xE3, 0xF7]).withBank0
        { Bank.zero with a := 0xAC, h := 0x03, l := 0x00 }).withData [(0x0300, 0xDB)])
      (fun t => (t.bank.a, t.pc, t.psw.jf, memRead8 t 0x0300)) =
    some (0xAB, 0x8002, true, 0xCD) := by decide

/-- B1: `SET (0x40).7`. -/
theorem test_b1_set_0x40_7 :
    after ((start 0x8000 [0xC7, 0x40]).withData [(0x0040, 0x80)])
      (fun t => (t.pc, memRead8 t 0x0040)) =
    some (0x8002, 0x80) := by decide

/-- B2: `CLR (HL).A`. -/
theorem test_b2_clr_hl_a :
    after (((start 0x8000 [0xE3, 0xFA]).withBank0
        { Bank.zero with h := 0x03, l := 0x00, a := 0xFB }).withData [(0x0300, 0xFF)])
      (fun t => (t.pc, memRead8 t 0x0300)) =
    some (0x8002, 0xF7) := by decide

/-- B3: `CPL (0x1234).0`. -/
theorem test_b3_cpl_0x1234_0 :
    after ((start 0x8000 [0xE1, 0x34, 0x12, 0xE0]).withData [])
      (fun t => (t.pc, t.psw.jf, t.psw.zf, memRead8 t 0x1234)) =
    some (0x8004, true, true, 0x01) := by decide

/-- B4: `LD CF,(0x40).2`. -/
theorem test_b4_ld_cf_0x40_2 :
    after ((start 0x8000 [0x5A, 0x40]).withData [(0x0040, 0x04)])
      (fun t => (t.pc, t.psw.cf)) =
    some (0x8002, true) := by decide

/-- B5: `LD (HL).6,CF`. -/
theorem test_b5_ld_hl_6_cf :
    after ((((start 0x8000 [0xE3, 0xEE]).withBank0 { Bank.zero with h := 0x03, l := 0x00 }).withPsw
        { flags0 with cf := true }).withData [])
      (fun t => (t.pc, t.psw.jf, memRead8 t 0x0300)) =
    some (0x8002, true, 0x40) := by decide

/-- B6: `XOR CF,(HL).0`. -/
theorem test_b6_xor_cf_hl_0 :
    after ((((start 0x8000 [0xE3, 0x50]).withBank0 { Bank.zero with h := 0x03, l := 0x00 }).withPsw
        { flags0 with cf := true }).withData [(0x0300, 0x01)])
      (fun t => (t.pc, t.psw.jf, t.psw.cf)) =
    some (0x8002, true, false) := by decide

/-- B7: `SET CF`. -/
theorem test_b7_set_cf :
    after ((start 0x8000 [0x05]).withPsw { flags0 with jf := true })
      (fun t => (t.pc, t.psw.jf, t.psw.cf)) =
    some (0x8001, false, true) := by decide

/-- B8: `CLR CF`. -/
theorem test_b8_clr_cf :
    after ((start 0x8000 [0x04]).withPsw { flags0 with cf := true })
      (fun t => (t.pc, t.psw.jf, t.psw.cf)) =
    some (0x8001, true, false) := by decide

/-- B9: `CPL CF`. -/
theorem test_b9_cpl_cf :
    after ((start 0x8000 [0x06]).withPsw { flags0 with cf := true })
      (fun t => (t.pc, t.psw.jf, t.psw.cf)) =
    some (0x8001, true, false) := by decide

/-- B10: `DI`. -/
theorem test_b10_di :
    after ((start 0x8000 [0xC8, 0x3A]).withImf true)
      (fun t => (t.pc, t.imf, memRead8 t 0x003A)) =
    some (0x8002, false, 0x00) := by decide

/-- B12: `EI`. -/
theorem test_b12_ei :
    after (((start 0x8000 [0xC0, 0x3A]).withPsw { flags0 with zf := true, jf := true }).withImf true)
      (fun t => (t.pc, t.psw.jf, t.psw.zf, memRead8 t 0x003A)) =
    some (0x8002, false, false, 0x01) := by decide

/-- B13: `LD (0x41).A,CF`. -/
theorem test_b13_ld_0x41_a_cf :
    after (((start 0x8000 [0xE0, 0x41, 0xF3]).withBank0 { Bank.zero with a := 0x0F }).withData [(0x0041, 0xFF)])
      (fun t => (t.pc, t.psw.jf, memRead8 t 0x0041)) =
    some (0x8003, true, 0x7F) := by decide

/-- B14: `SET (PC+A).A`. -/
theorem test_b14_set_pc_plus_a_a :
    after (((start 0x0100 [0x4F, 0xF2]).withBank0 { Bank.zero with a := 0x02 }).withData [])
      (fun t => (t.pc, t.psw.jf, t.psw.zf, memRead8 t 0x0104)) =
    some (0x0102, true, true, 0x04) := by decide

/-- J1: `JRS T,$+2+0x0F`. -/
theorem test_j1_jrs_t_plus_2_plus_0x0f :
    after (start 0x1000 [0x8F])
      (fun t => (t.pc, t.psw.jf)) =
    some (0x1001, true) := by decide

/-- J2: `JRS F,$+2-16`. -/
theorem test_j2_jrs_f_plus_2_minus_16 :
    after (start 0x1000 [0xB0])
      (fun t => (t.pc, t.psw.jf)) =
    some (0x0FF2, true) := by decide

/-- J4: `JRS T,$+2+1`. -/
theorem test_j4_jrs_t_plus_2_plus_1 :
    after ((start 0xFFFF [0x81]).withPsw { flags0 with jf := true })
      (fun t => t.pc) =
    some 0x0002 := by decide

/-- J6: `JR NZ,$+2-128`. -/
theorem test_j6_jr_nz_plus_2_minus_128 :
    after (start 0x2000 [0xD9, 0x80])
      (fun t => (t.pc, t.psw.jf)) =
    some (0x1F82, true) := by decide

/-- J8: `JR LE,a`. -/
theorem test_j8_jr_le_a :
    after ((start 0x2000 [0xDC, 0x10]).withPsw { flags0 with zf := true })
      (fun t => (t.pc, t.psw.jf)) =
    some (0x2012, true) := by decide

/-- J11: `JR SLT,a`. -/
theorem test_j11_jr_slt_a :
    after ((start 0x2000 [0xE8, 0xD2, 0x10]).withPsw { flags0 with vf := true })
      (fun t => (t.pc, t.psw.jf)) =
    some (0x2013, true) := by decide

/-- J12: `JR SGT,a`. -/
theorem test_j12_jr_sgt_a :
    after ((start 0x2000 [0xE8, 0xD5, 0xFD]).withPsw { flags0 with sf := true, vf := true })
      (fun t => (t.psw.jf, t.pc)) =
    some (true, 0x2000) := by decide

/-- J13: `JR VC,a`. -/
theorem test_j13_jr_vc_a :
    after ((start 0x2000 [0xE8, 0xD7, 0x10]).withPsw { flags0 with vf := true })
      (fun t => (t.pc, t.psw.jf)) =
    some (0x2003, true) := by decide

/-- J15: `JP SP`. -/
theorem test_j15_jp_sp :
    after ((start 0x8000 [0xEE, 0xFE]).withSp 0x4000)
      (fun t => t.pc) =
    some 0x4000 := by decide

/-- J16: `JP (+SP)`. -/
theorem test_j16_jp_plus_sp :
    after (((start 0x8000 [0xE6, 0xFE]).withSp 0x01F0).withData [(0x01F2, 0x90)])
      (fun t => (t.sp, t.pc)) =
    some (0x01F1, 0x9000) := by decide

/-- J17: `JP (HL+C)`. -/
theorem test_j17_jp_hl_plus_c :
    after (((start 0x8000 [0xE7, 0xFE]).withBank0
        { Bank.zero with h := 0x03, l := 0x10, c := 0xF0 }).withData [(0x0300, 0x34), (0x0301, 0x12)])
      (fun t => t.pc) =
    some 0x1234 := by decide

/-- E21: `JP 0xF1A3`. -/
theorem test_e21_jp_0xf1a3 :
    after (start 0x8000 [0xFE, 0xA3, 0xF1])
      (fun t => t.pc) =
    some 0xF1A3 := by decide

/-- E92: `JR 0xD61C`. -/
theorem test_e92_jr_0xd61c :
    after (start 0xD5A7 [0xFC, 0x73])
      (fun t => (t.pc, t.psw.jf)) =
    some (0xD61C, true) := by decide

/-- C1: `CALL 0x9000`. -/
theorem test_c1_call_0x9000 :
    after ((start 0x8123 [0xFD, 0x00, 0x90]).withSp 0x01FF)
      (fun t => (t.sp, t.pc, memRead8 t 0x01FF, memRead8 t 0x01FE)) =
    some (0x01FD, 0x9000, 0x81, 0x26) := by decide

/-- C3: `CALL SP`. -/
theorem test_c3_call_sp :
    after ((start 0x8123 [0xEE, 0xFD]).withSp 0x01FF)
      (fun t => (t.sp, t.pc, memRead8 t 0x01FF, memRead8 t 0x01FE)) =
    some (0x01FD, 0x01FF, 0x81, 0x25) := by decide

/-- C4: `CALL (SP+0x01)`. -/
theorem test_c4_call_sp_plus_0x01 :
    after ((start 0x8123 [0xD6, 0x01, 0xFD]).withSp 0x01FF)
      (fun t => (t.sp, t.pc, memRead8 t 0x01FF, memRead8 t 0x01FE)) =
    some (0x01FD, 0x8126, 0x81, 0x26) := by decide

/-- C6: `CALL (+SP)`. -/
theorem test_c6_call_plus_sp :
    after (((start 0x8123 [0xE6, 0xFD]).withSp 0x01F0).withData [(0x01F2, 0x90)])
      (fun t => (t.sp, t.pc, memRead8 t 0x01F0, memRead8 t 0x01F1)) =
    some (0x01EF, 0x9000, 0x25, 0x81) := by decide

/-- C7: `CALLV 0xF`. -/
theorem test_c7_callv_0xf :
    after (withCodeByte (withCodeByte ((start 0x8123 [0x7F]).withSp 0x01FF) 0xFFBE 0x21) 0xFFBF 0x43)
      (fun t => (t.sp, t.pc, memRead8 t 0x01FF, memRead8 t 0x01FE)) =
    some (0x01FD, 0x4321, 0x81, 0x24) := by decide

/-- C8: `RET`. -/
theorem test_c8_ret :
    after (((start 0x8000 [0xFA]).withSp 0x01FD).withData [(0x01FE, 0x26), (0x01FF, 0x81)])
      (fun t => (t.sp, t.pc)) =
    some (0x01FF, 0x8126) := by decide

/-- C9: `RETI`. -/
theorem test_c9_reti :
    after (((start 0x8000 [0xFB]).withSp 0x0125).withData [(0x0126, 0x75), (0x0127, 0xCA), (0x0128, 0x47)])
      (fun t => (t.sp, t.pc, t.psw.zf, t.psw.vf, t.psw.rbs, t.imf)) =
    some (0x0128, 0xCA75, true, true, true, true) := by decide

/-- C10: `RETN`. -/
theorem test_c10_retn :
    after (((((start 0x8000 [0xE8, 0xFB]).withPsw
        { flags0 with jf := true, zf := true, cf := true, hf := true, sf := true, vf := true }).withSp 0x0125).withImf true).withData [(0x0126, 0x75), (0x0127, 0xCA), (0x0128, 0x02)])
      (fun t => (t.psw, t.sp, t.pc, t.imf)) =
    some ({ jf := false, zf := false, cf := false, hf := false, sf := false, vf := false, rbs := true }, 0x0128, 0xCA75, false) := by decide

/-- C11: `SWI`. -/
theorem test_c11_swi :
    after ((((start 0xFFFF [0xFF]).withPsw { flags0 with jf := true }).withSp 0x0001).withImf true)
      (fun t => (t.sp, t.imf, memRead8 t 0x0001, memRead8 t 0x0000, memRead8 t 0xFFFF)) =
    some (0xFFFE, false, 0x81, 0x00, 0x00) := by decide
/-! ## Refusals, events, placing an instruction -/

/-- U-vectors: an undefined first byte, a restricted combination, an undefined second opcode (R111, R361). -/
theorem test_undefined_codes_are_refused :
    decode (windowOf [0x01]) = .undefined [0x01] ∧ decode (windowOf [0xE9, 0xD1]) = .undefined [0xE9, 0xD1] ∧
      decode (windowOf [0xE1, 0x34, 0x12, 0xFF]) = .undefined [0xE1, 0x34, 0x12, 0xFF] ∧
      decode (windowOf [0xF9, 0x01]) = .undefined [0xF9, 0x01] ∧
      decode (windowOf [0xE8, 0x4F]) = .undefined [0xE8, 0x4F] := ⟨rfl, rfl, rfl, rfl, rfl⟩

theorem test_undefined_first_byte_step : step (start 0x8000 [0x6F]) = .refused (.undefinedInstruction [0x6F]) := rfl

/-- H-vectors: a maskable request with IMF 0 is not accepted and stays; NOP runs (R357). -/
theorem test_masked_request_waits :
    after ((start 0x8000 [0x00]).withEvent (some (.interrupt 3 false))) (fun t => (t.pc, t.event)) =
    some (0x8001, some (.interrupt 3 false)) := by decide

/-- A non-maskable request with IMF 0 is accepted: return address `pc`, IMF 0 in the saved byte (R356). -/
theorem test_nonmaskable_request_enters :
    after (((start 0x8000 [0x00]).withSp 0x0200).withEvent (some (.interrupt 3 true)))
      (fun t => (t.sp, memRead8 t 0x0200, memRead8 t 0x01FF, memRead8 t 0x01FE, t.event)) =
    some (0x01FD, 0x00, 0x80, 0x00, none) := by decide

/-- A maskable request with IMF 1: IMF is saved in bit 0 and cleared (R356). -/
theorem test_maskable_request_enters :
    after ((((start 0x8000 [0x00]).withSp 0x0200).withImf true).withEvent (some (.interrupt 3 false)))
      (fun t => (t.sp, t.imf, memRead8 t 0x0200)) = some (0x01FD, false, 0x01) := by decide

/-- A reset event is taken at an undefined code too; RBS and IMF are 0 (R380). -/
theorem test_reset_event :
    after (((start 0x8000 [0x01]).withImf true).withEvent (some .reset)) (fun t => (t.imf, t.psw.rbs, t.event)) =
    some (false, false, none) := by decide

/-- The first step after reset with `LD A,0x53` placed runs it. -/
theorem test_withFetchWord_runs : after (State.reset.withFetchWord 16 0x1853) (fun t => t.bank.a) = some 0x53 := by
  decide

theorem test_decodeTableWord : decodeTableWord 24 0x481234 = some (.ldRRMN .wa 0x3412) := rfl

/-- `encode` on the example of R81: `LDW (0x73),0x1234` is `08 73 34 12`. -/
theorem test_encode : encode (.ldwAtXMN 0x73 0x1234) = [0x08, 0x73, 0x34, 0x12] := rfl

/-! ## Witnesses: a concrete state and operands that meet an obligation's hypotheses, each clause on its own -/

theorem witness_LoadByteFromRegister :
    (Instr.ldAR .h).form = .ldAR .h ∧ (Instr.ldRA .h).form = .ldRA .h ∧ (Instr.ldRG .a .h).form = .ldRG .a .h :=
  ⟨rfl, rfl, rfl⟩

theorem witness_LoadByteFromMemory :
    (Instr.ldAAtX 0xFF).form = .ldAX 0xFF ∧ Instr.ldAAtHL.form = .ldAHL ∧
      (Instr.ldRAtIncSP .h).form = .ldRSrc .h .incSP ∧ (Instr.ldRAtPCA .a).form = .ldRSrc .a .pcA :=
  ⟨rfl, rfl, rfl, rfl⟩

theorem witness_LoadWord :
    (Instr.ldRRGG .sp .hlAlt).form = .ldRRGG .sp .hlAlt ∧ (Instr.ldRRMN .sp 0xFFFF).form = .ldRRMN .sp 0xFFFF ∧
      (Instr.ldRRAtIncSP .sp).form = .ldRRSrc .sp .incSP := ⟨rfl, rfl, rfl⟩

theorem witness_LoadImmediateAndAdjustSp :
    (Instr.ldRN .h 0).form = .ldRN .h 0 ∧ (Instr.ldSPAddD 0xFF).form = .ldSPAdd 0xFF ∧
      (Instr.ldSPSubD 0xFF).form = .ldSPSub 0xFF := ⟨rfl, rfl, rfl⟩

theorem witness_StoreByte :
    State.reset.wf = true ∧ (Instr.ldAtXA 0x3A).form = .ldXA 0x3A ∧ (Instr.ldAtXN 0x3A 1).form = .ldXN 0x3A 1 ∧
      Instr.ldAtHLA.form = .ldHLA ∧ (Instr.ldAtHLN 0).form = .ldHLN 0 ∧
      (Instr.ldAtSPDecR .h).form = .ldDstR .spDec .h ∧ (Instr.ldAtVWN 0xFFFF 0).form = .ldDstN (.vw 0xFFFF) 0 :=
  ⟨rfl, rfl, rfl, rfl, rfl, rfl, rfl⟩

theorem witness_StoreWord :
    State.reset.wf = true ∧ (Instr.ldwAtXMN 0xFF 0).form = .ldwXMN 0xFF 0 ∧
      (Instr.ldwAtHLMN 0xFFFF).form = .ldwHLMN 0xFFFF ∧ (Instr.ldAtSPDecRR .sp).form = .ldDstRR .spDec .sp ∧
      (Instr.ldAtVWRR 0xFFFF .sp).form = .ldDstRR (.vw 0xFFFF) .sp := ⟨rfl, rfl, rfl, rfl, rfl⟩

theorem witness_PushWord :
    State.reset.wf = true ∧ State.reset.sp = 0 ∧ (Instr.pushRR .hl).form = .pushPair .hl ∧
      Instr.pushIX.form = .pushIndex .ix ∧ Instr.pushIY.form = .pushIndex .iy := ⟨rfl, rfl, rfl, rfl, rfl⟩

theorem witness_PopWord :
    (Instr.popRR .hl).form = .popPair .hl ∧ Instr.popIX.form = .popIndex .ix ∧ Instr.popIY.form = .popIndex .iy :=
  ⟨rfl, rfl, rfl⟩

theorem witness_PswTransfers :
    State.reset.wf = true ∧ Instr.pushPSW.form = .pushPSW ∧ Instr.popPSW.form = .popPSW ∧
      (Instr.ldPSWN 0xFF).form = .ldPSW 0xFF ∧ Instr.ldRBS1.form = .ldRBS true ∧ Instr.ldRBS0.form = .ldRBS false :=
  ⟨rfl, rfl, rfl, rfl, rfl, rfl⟩

theorem witness_ExchangeRegisters :
    (Instr.xchRG .h .h).form = .xchRG .h .h ∧ (Instr.xchRRGG .hl .hlAlt).form = .xchRRGG .hl .hlAlt := ⟨rfl, rfl⟩

theorem witness_ExchangeWithMemory :
    State.reset.wf = true ∧ (Instr.xchRAtHL .l).form = .xchRSrc .l .hl ∧
      (Instr.xchRRAtIncSP .sp).form = .xchRRSrc .sp .incSP := ⟨rfl, rfl, rfl⟩

theorem witness_AluByteOnRegisters :
    (Instr.addcAN 0xFF).form = .aluAN .addc 0xFF ∧ (Instr.cmpGN .h 0).form = .aluGN .cmp .h 0 ∧
      (Instr.subbRG .a .a).form = .aluRG .subb .a .a := ⟨rfl, rfl, rfl⟩

theorem witness_AluByteFromMemory :
    (Instr.cmpRAtIncSP .h).form = .aluRSrc .cmp .h .incSP ∧ (Instr.xorRAtPCA .a).form = .aluRSrc .xor .a .pcA :=
  ⟨rfl, rfl⟩

theorem witness_AluByteOnMemory :
    State.reset.wf = true ∧ (Instr.addAtXN 0x3A 1).form = .aluSrcN .add (.x 0x3A) 1 ∧
      (Instr.cmpAtXN 0xFF 0).form = .cmpXN 0xFF 0 ∧ (Instr.cmpAtIncSPN 0).form = .aluSrcN .cmp .incSP 0 :=
  ⟨rfl, rfl, rfl, rfl⟩

theorem witness_AluWordOnRegisters :
    (Instr.subGGMN .sp 0xFFFF).form = .aluGGMN .sub .sp 0xFFFF ∧
      (Instr.cmpRRGG .hlAlt .sp).form = .aluRRGG .cmp .hlAlt .sp := ⟨rfl, rfl⟩

theorem witness_AluWordFromMemory :
    (Instr.addRRAtIncSP .sp).form = .aluRRSrc .add .sp .incSP ∧ (Instr.cmpRRAtVW .wa 0xFFFF).form =
      .aluRRSrc .cmp .wa (.vw 0xFFFF) := ⟨rfl, rfl⟩

theorem witness_StepRegister :
    (Instr.incR .h).form = .incR .h ∧ (Instr.decR .h).form = .decR .h ∧ (Instr.incRR .sp).form = .incRR .sp ∧
      (Instr.decRR .sp).form = .decRR .sp := ⟨rfl, rfl, rfl, rfl⟩

theorem witness_StepMemory :
    State.reset.wf = true ∧ Instr.incAtIncSP.form = .incSrc .incSP ∧ (Instr.decAtX 0x3A).form = .decSrc (.x 0x3A) :=
  ⟨rfl, rfl, rfl⟩

/-- Listed values at the ends of rows, with the flags of the row. -/
theorem witness_DecimalAdjust :
    (Instr.daaG .h).form = .daa .h ∧ (Instr.dasG .h).form = .das .h ∧ adjustRow daaRows false false 0x99 ≠ none ∧
      adjustRow daaRows false false 0xFF ≠ none ∧ adjustRow daaRows true true 0x33 ≠ none ∧
      adjustRow daaRows true true 0x34 = none ∧ adjustRow dasRows true true 0x66 ≠ none ∧
      adjustRow dasRows false true 0x8F ≠ none ∧ adjustRow dasRows false true 0x90 = none := by
  refine ⟨rfl, rfl, ?_⟩; decide

theorem witness_Multiply : Instr.mulHL.form = .mul .hl ∧ Instr.mulWA.form = .mul .wa := ⟨rfl, rfl⟩

/-- Divisor 1 and dividend 255 fit, dividend 256 does not, and divisor 0 never does. -/
theorem witness_Divide :
    Instr.divWAC.form = .div .wa ∧ 255 < 256 * 1 ∧ ¬256 < 256 * 1 ∧ ¬0 < 256 * 0 ∧
      (readR8 (State.reset.withBank0 { Bank.zero with c := 1 }) .c).toNat = 1 := by
  refine ⟨rfl, ?_⟩; decide

theorem witness_NegateOnCarry :
    (Instr.negCSGG .hlAlt).form = .negCS .hlAlt ∧ State.reset.psw.cf = false ∧
      (State.reset.withPsw { flags0 with cf := true }).psw.cf = true := ⟨rfl, rfl, rfl⟩

theorem witness_DecimalAddition :
    (Instr.addcRG .b .b).form = .aluRG .addc .b .b ∧ (Instr.daaG .b).form = .daa .b ∧ isBcd 0x99 ∧ isBcd 0x00 := by
  refine ⟨rfl, rfl, ?_⟩; unfold isBcd; decide

theorem witness_DecimalSubtraction :
    (Instr.subbRG .a .b).form = .aluRG .subb .a .b ∧ (Instr.dasG .a).form = .das .a ∧
      isBcd (readR8 (State.reset.withBank0 { Bank.zero with a := 0x00, b := 0x99 }) .b) := by
  refine ⟨rfl, rfl, ?_⟩; unfold isBcd; decide

theorem witness_ShiftRotateByte :
    (Instr.shlcG .h).form = .shift8 .shlc .h ∧ (Instr.shrcG .a).form = .shift8 .shrc .a ∧
      (Instr.rolcG .a).form = .shift8 .rolc .a ∧ (Instr.rorcG .a).form = .shift8 .rorc .a := ⟨rfl, rfl, rfl, rfl⟩

theorem witness_ShiftWord :
    (Instr.shlcaGG .hlAlt).form = .shift16 .shlca .hlAlt ∧ (Instr.shrcaGG .sp).form = .shift16 .shrca .sp := ⟨rfl, rfl⟩

theorem witness_NibbleInstructions :
    (Instr.swapG .h).form = .swap .h ∧ State.reset.wf = true ∧ Instr.roldAAtIncSP.form = .rold .incSP ∧
      (Instr.rordAAtX 0x3A).form = .rord (.x 0x3A) := ⟨rfl, rfl, rfl, rfl⟩

theorem witness_RoldThenRord :
    State.reset.wf = true ∧ Src.hl ≠ .incSP ∧ Src.hl ≠ .pcA ∧ Instr.roldAAtHL.form = .rold .hl ∧
      Instr.rordAAtHL.form = .rord .hl := by
  refine ⟨rfl, ?_, ?_, rfl, rfl⟩ <;> decide

theorem witness_BitOfRegister :
    (Instr.setGb .h 7).form = .bitGB .set .h 7 ∧ (Instr.clrGb .a 0).form = .bitGB .clr .a 0 ∧
      (Instr.cplGb .a 7).form = .bitGB .cpl .a 7 := ⟨rfl, rfl, rfl⟩

theorem witness_BitOfMemory :
    State.reset.wf = true ∧ (Instr.cplAtIncSPb 7).form = .bitSrcB .cpl .incSP 7 ∧
      Instr.setAtPCAbitA.form = .bitSrcA .set .pcA ∧ (Instr.setAtXb 0x3A 0).form = .setXB 0x3A 0 ∧
      (Instr.clrAtXb 0xFF 7).form = .clrXB 0xFF 7 ∧ Instr.di.form = .clrXB 0x3A 0 ∧ Instr.ei.form = .setXB 0x3A 0 :=
  ⟨rfl, rfl, rfl, rfl, rfl, rfl, rfl⟩

theorem witness_CarryFromBit :
    (Instr.ldCFGb .h 7).form = .ldCFGB .h 7 ∧ (Instr.xorCFGb .a 0).form = .xorCFGB .a 0 ∧
      (Instr.testAtXb 0x3A 0).form = .ldCFXB 0x3A 0 ∧ (Instr.ldCFAtIncSPb 7).form = .ldCFSrcB .incSP 7 ∧
      (Instr.xorCFAtHLb 0).form = .xorCFSrcB .hl 0 ∧ Instr.ldCFAtPCAbitA.form = .ldCFSrcA .pcA :=
  ⟨rfl, rfl, rfl, rfl, rfl, rfl⟩

theorem witness_StoreCarryToBit :
    State.reset.wf = true ∧ (Instr.ldGbCF .h 7).form = .ldGBCF .h 7 ∧
      (Instr.ldAtXbCF 0x3A 0).form = .ldSrcBCF (.x 0x3A) 0 ∧ Instr.ldAtIncSPbitACF.form = .ldSrcACF .incSP :=
  ⟨rfl, rfl, rfl, rfl⟩

theorem witness_CarryInstructionsAndNop :
    Instr.setCF.form = .setCF ∧ Instr.clrCF.form = .clrCF ∧ Instr.cplCF.form = .cplCF ∧ Instr.nop.form = .nop :=
  ⟨rfl, rfl, rfl, rfl⟩

theorem witness_DisableEnableInterrupts : State.reset.wf = true ∧ (State.reset.withImf true).wf = true := ⟨rfl, rfl⟩

theorem witness_RelativeJumps :
    (Instr.jrsT 0x10).form = .jrs true 0x10 ∧ (Instr.jrsF 0x0F).form = .jrs false 0x0F ∧
      (Instr.jrLE 0x80).form = .jrCC .le 0x80 ∧ (Instr.jrSGT 0x7F).form = .jrCCLong .sgt 0x7F ∧
      (Instr.jrA 0x80).form = .jrA 0x80 := ⟨rfl, rfl, rfl, rfl, rfl⟩

theorem witness_CompareThenBranch :
    (Instr.cmpRG .a .b).form = .aluRG .cmp .a .b ∧ (Instr.cmpRRGG .wa .sp).form = .aluRRGG .cmp .wa .sp := ⟨rfl, rfl⟩

theorem witness_AbsoluteJumps :
    (Instr.jpMN 0xFFFF).form = .jpMN 0xFFFF ∧ (Instr.jpGG .sp).form = .jpGG .sp ∧
      Instr.jpAtIncSP.form = .jpSrc .incSP := ⟨rfl, rfl, rfl⟩

theorem witness_DirectCalls :
    State.reset.wf = true ∧ (Instr.callvN 15).form = .callv 15 ∧ (Instr.callMN 0).form = .callMN 0 ∧
      (Instr.callGG .sp).form = .callGG .sp := ⟨rfl, rfl, rfl, rfl⟩

theorem witness_IndirectCalls :
    State.reset.wf = true ∧ (Instr.callAtSPd 1).form = .callSrc (.spd 1) ∧ Src.spd 1 ≠ .incSP ∧
      Instr.callAtIncSP.form = .callSrc .incSP := by
  refine ⟨rfl, rfl, ?_, rfl⟩; decide

theorem witness_ReturnFromSubroutine : Instr.ret.form = .ret := rfl

theorem witness_ReturnFromHandler :
    (Instr.reti.form = .reti ∧ encode .reti = [0xFB]) ∧ Instr.retn.form = .retn ∧ encode .retn = [0xE8, 0xFB] :=
  ⟨⟨rfl, rfl⟩, rfl, rfl⟩

/-- Also where the first, the second and the third stacked byte fall on 0x003A. -/
theorem witness_SoftwareInterrupt :
    Instr.swi.form = .swi ∧ [State.reset, State.reset.withSp 0x3A, State.reset.withSp 0x3B,
      State.reset.withSp 0x3C].map State.wf = List.replicate 4 true := ⟨rfl, rfl⟩

theorem witness_CallThenReturn :
    State.reset.wf = true ∧ (∃ t, exec (.callAtSPd 1) State.reset = .next t) ∧
      (∃ t, exec (.callvN 15) State.reset = .next t) ∧ (∃ t, exec (.callMN 0) State.reset = .next t) ∧
      (∃ t, exec (.callGG .sp) State.reset = .next t) ∧ Instr.ret.form = .ret :=
  ⟨rfl, ⟨_, rfl⟩, ⟨_, rfl⟩, ⟨_, rfl⟩, ⟨_, rfl⟩, rfl⟩

/-- SP at the value next to those that the statement leaves out, with a request waiting. -/
theorem witness_EntryThenReturn :
    let s := ((State.reset.withSp 0x003D).withImf true).withEvent (some (.interrupt 0 false))
    s.wf = true ∧ s.sp ≠ 0x003A ∧ s.sp - 1 ≠ 0x003A ∧ s.sp - 2 ≠ 0x003A ∧ (∃ t, exec .swi s = .next t) ∧
      s.event = some (.interrupt 0 false) ∧ s.imf = true ∧ (∃ t, step s = .next t) ∧
      Instr.reti.form = .reti ∧ Instr.retn.form = .retn := by
  refine ⟨rfl, ?_, ?_, ?_, ⟨_, rfl⟩, rfl, rfl, ⟨_, rfl⟩, rfl, rfl⟩ <;> decide

theorem witness_ImfAtDataAddress3A : State.reset.wf = true ∧ (State.reset.withImf true).wf = true := ⟨rfl, rfl⟩

/-- A state whose `pc` is the last code address, so that the fetch wraps. -/
theorem witness_StepRunsDecoded :
    let s := start 0xFFFF [0x18, 0x53]
    (s.event = none ∧ (s.withEvent (some (.interrupt 9 false))).imf = false) ∧
      decode (windowOf [codeRead8 s s.pc, codeRead8 s (s.pc + 1), codeRead8 s (s.pc + 2), codeRead8 s (s.pc + 3),
        codeRead8 s (s.pc + 4)]) = .ok (.ldRN .a 0x53) := ⟨⟨rfl, rfl⟩, rfl⟩

/-- A first byte, and a second opcode after two operand bytes. -/
theorem witness_UndefinedCodesRefused :
    let s := start 0 [0x01]
    let u := start 0 [0xE1, 0x34, 0x12, 0xFF]
    s.event = none ∧ decode (fetchWindow s) = .undefined [0x01] ∧ u.event = none ∧
      decode (fetchWindow u) = .undefined [0xE1, 0x34, 0x12, 0xFF] := ⟨rfl, rfl, rfl, rfl⟩

theorem witness_Reset : (State.reset.withEvent (some .reset)).event = some .reset := rfl

theorem witness_InterruptRequests :
    let s := (start 0x8000 [0x00]).withEvent (some (.interrupt 3 false))
    s.wf = true ∧ s.event = some (.interrupt 3 false) ∧ (s.withImf true).imf = true ∧ (s.withImf true).wf = true ∧
      s.imf = false ∧ decode (fetchWindow s) = .ok .nop ∧
      (s.withEvent (some (.interrupt 3 true))).event = some (.interrupt 3 true) := ⟨rfl, rfl, rfl, rfl, rfl, rfl, rfl⟩

theorem witness_StepKeepsCanonicalForm :
    (start 0x8000 [0x0E, 0x3A]).wf = true ∧ ∃ t, step (start 0x8000 [0x0E, 0x3A]) = .next t := ⟨rfl, ⟨_, rfl⟩⟩

/-- The last register that is well-formed there, and an assembler spelling. -/
theorem witness_DecodeOfEncode : (Instr.ldRRAtVW .sp 0xFFFF).wf = true ∧ (Instr.testAtXb 0xFF 7).wf = true := ⟨rfl, rfl⟩

theorem witness_DecodeReadsEveryBit : decode (windowOf [0xE1, 0xFF, 0xFF, 0x67, 0xFF]) = .ok (.cmpAtVWN 0xFFFF 0xFF) :=
  rfl

theorem witness_CodeAreaIsReadOnly : ∃ t, Reaches (start 0x8000 [0x0E, 0x3A]) t ∧ t.pc = 0x8002 :=
  ⟨_, Reaches.tail _ _ _ (Reaches.refl _) rfl, rfl⟩

theorem witness_RegisterBanks :
    (∃ t, exec .ldRBS1 State.reset = .next t ∧ t.psw.rbs ≠ State.reset.psw.rbs) ∧
      formSelectsBank Instr.reti.form = true := by
  refine ⟨⟨_, rfl, ?_⟩, rfl⟩; decide

theorem witness_OnlyStoresChangeMemory :
    (∃ t, exec (.cmpAtXN 0x3A 0) State.reset = .next t) ∧ formStores (Instr.cmpAtXN 0x3A 0).form = false ∧
      formStores (Instr.cmpAtIncSPN 0).form = false ∧ (∃ t, exec (.cmpAtIncSPN 0) State.reset = .next t) ∧
      formStores Instr.reti.form = false ∧ Instr.nop.form ≠ .reti ∧ Instr.nop.form ≠ .retn := by
  refine ⟨⟨_, rfl⟩, rfl, rfl, ⟨_, rfl⟩, rfl, ?_, ?_⟩ <;> decide

end Sys2Proof.Tests
end

