-- ==== Sys2Proof/Proofs/StateFamily.lean ====
section
/-!
PROOFS. The family `10_state.md`: the canonical form after reset, what a reset fixes, and the register banks. The
proof about the banks turns on one equivalence of states, `StaysInBank`: same RBS, and the bank that RBS does not
select is the same. Every state operation but a write of RBS stays in the class, and so does every form composed of
such operations.
-/

namespace Sys2Proof.Machine

open Sys2Proof

/-! Reset -/

/-- Settles O51: both areas are empty lists. -/
theorem resetIsCanonical : Obligations.ResetIsCanonical :=
  (State.wf_iff State.reset).2 ⟨rfl, rfl, rfl⟩

/-- A reset event is taken ungated (R380). -/
theorem takeEvent_of_reset (s : State) (h : s.event = some .reset) : takeEvent s = some (resetEvent s) := by
  unfold takeEvent; rw [h]

/-- What is taken at the boundary is the whole step: nothing is fetched (R356, R380). -/
theorem step_of_takeEvent (s t : State) (h : takeEvent s = some t) : step s = .next t := by
  unfold step; rw [h]

/-- Settles O49: the step at a reset event is `resetEvent`. -/
theorem reset : Obligations.Reset := by
  unfold Obligations.Reset
  refine ⟨⟨rfl, rfl, rfl⟩, fun s h => ⟨resetEvent s, ?_, rfl, rfl, rfl, rfl, rfl⟩⟩
  exact step_of_takeEvent s _ (takeEvent_of_reset s h)

/-! States that agree on RBS and on the bank that it does not select (R25) -/

/-- RBS is as before, and so is the bank that it does not select. -/
structure StaysInBank (s t : State) : Prop where
  rbs : t.psw.rbs = s.psw.rbs
  other : keepsOtherBank s t

theorem StaysInBank.of_eq {s t : State} (hr : t.psw.rbs = s.psw.rbs) (h0 : t.bank0 = s.bank0)
    (h1 : t.bank1 = s.bank1) : StaysInBank s t :=
  ⟨hr, fun _ => h0, fun _ => h1⟩

@[simp] theorem StaysInBank.refl (s : State) : StaysInBank s s := .of_eq rfl rfl rfl

theorem StaysInBank.symm {s t : State} (h : StaysInBank s t) : StaysInBank t s :=
  ⟨h.rbs.symm, fun hs => (h.other.1 (h.rbs ▸ hs)).symm, fun hs => (h.other.2 (h.rbs ▸ hs)).symm⟩

theorem StaysInBank.trans {s t u : State} (h : StaysInBank s t) (k : StaysInBank t u) : StaysInBank s u :=
  ⟨k.rbs.trans h.rbs, fun hs => (k.other.1 (h.rbs.trans hs)).trans (h.other.1 hs),
    fun hs => (k.other.2 (h.rbs.trans hs)).trans (h.other.2 hs)⟩

/-- An update that stays in the bank can be peeled off the later state. -/
theorem StaysInBank.iff_of_update {s t u : State} (h : StaysInBank t u) : StaysInBank s u ↔ StaysInBank s t :=
  ⟨fun k => k.trans h.symm, fun k => k.trans h⟩

/-! One rule per state operation: it stays in the bank. -/

section update
variable (s t : State)

@[simp] theorem staysInBank_withSp (v : Word) : StaysInBank s (t.withSp v) ↔ StaysInBank s t :=
  StaysInBank.iff_of_update (.of_eq rfl rfl rfl)

@[simp] theorem staysInBank_withPc (v : Word) : StaysInBank s (t.withPc v) ↔ StaysInBank s t :=
  StaysInBank.iff_of_update (.of_eq rfl rfl rfl)

@[simp] theorem staysInBank_advance (k : Nat) : StaysInBank s (t.advance k) ↔ StaysInBank s t :=
  StaysInBank.iff_of_update (.of_eq rfl rfl rfl)

@[simp] theorem staysInBank_drawn : StaysInBank s (drawn t) ↔ StaysInBank s t :=
  StaysInBank.iff_of_update (.of_eq rfl rfl rfl)

@[simp] theorem staysInBank_withPsw (p : Psw) (h : p.rbs = t.psw.rbs) :
    StaysInBank s (t.withPsw p) ↔ StaysInBank s t :=
  StaysInBank.iff_of_update (.of_eq h rfl rfl)

@[simp] theorem staysInBank_setJ (j : Bool) : StaysInBank s (setJ t j) ↔ StaysInBank s t :=
  StaysInBank.iff_of_update (.of_eq rfl rfl rfl)

@[simp] theorem staysInBank_setJZ (j z : Bool) : StaysInBank s (setJZ t j z) ↔ StaysInBank s t :=
  StaysInBank.iff_of_update (.of_eq rfl rfl rfl)

@[simp] theorem staysInBank_setJC (j c : Bool) : StaysInBank s (setJC t j c) ↔ StaysInBank s t :=
  StaysInBank.iff_of_update (.of_eq rfl rfl rfl)

@[simp] theorem staysInBank_setJZC (j z c : Bool) : StaysInBank s (setJZC t j z c) ↔ StaysInBank s t :=
  StaysInBank.iff_of_update (.of_eq rfl rfl rfl)

@[simp] theorem staysInBank_setLoadFlags (v : Byte) : StaysInBank s (setLoadFlags t v) ↔ StaysInBank s t :=
  StaysInBank.iff_of_update (.of_eq rfl rfl rfl)

@[simp] theorem staysInBank_setAluFlags8 (op : AluOp) (o : AluOut 8) :
    StaysInBank s (setAluFlags8 op o t) ↔ StaysInBank s t :=
  staysInBank_withPsw s t _ (aluPsw_rbs op o _ t.psw)

@[simp] theorem setAluFlags16_rbs (op : AluOp) (o : AluOut 16) :
    (setAluFlags16 op o t).psw.rbs = t.psw.rbs := by
  obtain ⟨half, -, hpsw⟩ := setAluFlags16_psw op o t
  rw [hpsw, aluPsw_rbs]

@[simp] theorem staysInBank_setAluFlags16 (op : AluOp) (o : AluOut 16) :
    StaysInBank s (setAluFlags16 op o t) ↔ StaysInBank s t :=
  StaysInBank.iff_of_update (.of_eq (by simp) (by simp) (by simp))

@[simp] theorem staysInBank_writeR8 (r : Reg8) (v : Byte) : StaysInBank s (writeR8 t r v) ↔ StaysInBank s t :=
  StaysInBank.iff_of_update ⟨by simp, State.withBank_other t _⟩

@[simp] theorem staysInBank_writeR16 (r : Reg16) (v : Word) : StaysInBank s (writeR16 t r v) ↔ StaysInBank s t :=
  StaysInBank.iff_of_update ⟨by simp, writeR16_other t r v⟩

@[simp] theorem staysInBank_memWrite8 (a : Word) (v : Byte) : StaysInBank s (memWrite8 t a v) ↔ StaysInBank s t :=
  StaysInBank.iff_of_update (.of_eq rfl rfl rfl)

@[simp] theorem staysInBank_memWrite16 (a v : Word) : StaysInBank s (memWrite16 t a v) ↔ StaysInBank s t :=
  StaysInBank.iff_of_update (.of_eq rfl rfl rfl)

@[simp] theorem staysInBank_push16 (v : Word) : StaysInBank s (push16 t v) ↔ StaysInBank s t :=
  StaysInBank.iff_of_update (.of_eq rfl rfl rfl)

@[simp] theorem staysInBank_enterException (ret vector : Word) :
    StaysInBank s (enterException t ret vector) ↔ StaysInBank s t :=
  StaysInBank.iff_of_update (.of_eq (by simp) (by simp) (by simp))

@[simp] theorem staysInBank_srcBegin (m : Src) : StaysInBank s (srcBegin m t) ↔ StaysInBank s t :=
  StaysInBank.iff_of_update (.of_eq (by simp) (by simp) (by simp))

@[simp] theorem staysInBank_dstEnd (m : Dst) : StaysInBank s (dstEnd m t) ↔ StaysInBank s t :=
  StaysInBank.iff_of_update (.of_eq (by simp) (by simp) (by simp))

end update

/-! The operations that several forms share, and those with cases of their own -/

section operation
variable (s t : State)

/-- The result of a two-operand operation goes to a register of the current bank, or nowhere (`CMP`). -/
@[simp] theorem staysInBank_alu8 (op : AluOp) (r : Reg8) (y : Byte) :
    StaysInBank s (alu8 op r y t) ↔ StaysInBank s t := by
  unfold alu8 aluStore8
  split <;> simp

@[simp] theorem staysInBank_alu16 (op : AluOp) (r : Reg16) (y : Word) :
    StaysInBank s (alu16 op r y t) ↔ StaysInBank s t := by
  unfold alu16 aluStore16
  split <;> simp

@[simp] theorem staysInBank_aluSrcN (op : AluOp) (m : Src) (n : Byte) :
    StaysInBank s (aluSrcN op m n t) ↔ StaysInBank s t := by
  simp only [aluSrcN]
  split <;> simp

/-- A combination outside the decimal-adjust tables frees the register and four flags, not RBS. -/
@[simp] theorem staysInBank_adjustUnlisted (g : Reg8) :
    StaysInBank s (adjustUnlisted g t) ↔ StaysInBank s t := by
  simp [adjustUnlisted]

@[simp] theorem staysInBank_daa (g : Reg8) : StaysInBank s (daa g t) ↔ StaysInBank s t := by
  simp only [daa, staysInBank_advance]
  split <;> simp

@[simp] theorem staysInBank_das (g : Reg8) : StaysInBank s (das g t) ↔ StaysInBank s t := by
  simp only [das, staysInBank_advance]
  split <;> simp

@[simp] theorem staysInBank_div (p : DivPair) : StaysInBank s (div p t) ↔ StaysInBank s t := by
  simp only [div, staysInBank_advance]
  split <;> simp

@[simp] theorem staysInBank_negCS (gg : Reg16) : StaysInBank s (negCS gg t) ↔ StaysInBank s t := by
  simp only [negCS, staysInBank_advance, staysInBank_setJ]
  split <;> simp

@[simp] theorem staysInBank_memBit (op : BitOp) (a : Word) (k : Nat) :
    StaysInBank s (memBit op a k t) ↔ StaysInBank s t := by
  simp [memBit]

@[simp] theorem staysInBank_loadCF (c : Bool) : StaysInBank s (loadCF t c) ↔ StaysInBank s t :=
  staysInBank_setJC s t _ _

@[simp] theorem staysInBank_relJump (taken : Bool) (target : Word) (len : Nat) :
    StaysInBank s (relJump taken target len t) ↔ StaysInBank s t := by
  simp [relJump]

/-- `CALL (+SP)` interleaves its push with the read of the target (R326); every other mode pushes first. -/
@[simp] theorem staysInBank_callSrc (m : Src) : StaysInBank s (callSrc m t) ↔ StaysInBank s t := by
  unfold callSrc
  split
  · simp [callIncSP]
  · simp [callPushed]

end operation

/-! The two kinds of form -/

/-- A form that does not select a bank stays in its bank (R25). The cases are the families of the opcode table. -/
theorem run_staysInBank (f : Form) (s : State) (hf : formSelectsBank f = false) : StaysInBank s (run f s) := by
  cases f with
  | ldRBS | popPSW | ldPSW | reti | retn => exact absurd hf (by simp [formSelectsBank])
  | ldAR | ldRA | ldRG | ldRRGG | ldRN | ldRRMN | ldSPAdd | ldSPSub | xchRG | xchRRGG =>
    simp [run, ldAR, ldRA, ldRG, ldRRGG, ldRN, ldRRMN, ldSPAdd, ldSPSub, xchRG, xchRRGG]
  | ldAX | ldAHL | ldRSrc | ldRRSrc | xchRSrc | xchRRSrc =>
    simp [run, ldAX, ldAHL, ldRSrc, ldRRSrc, xchRSrc, xchRRSrc]
  | ldXA | ldHLA | ldXN | ldHLN | ldwXMN | ldwHLMN | ldDstR | ldDstRR | ldDstN =>
    simp [run, ldXA, ldHLA, ldXN, ldHLN, ldwXMN, ldwHLMN, ldDstR, ldDstRR, ldDstN]
  | pushPair | popPair | pushIndex | popIndex | pushPSW =>
    simp [run, pushPair, popPair, pushIndex, popIndex, pushPSW]
  | aluAN | aluGN | aluRG | aluRSrc | aluSrcN | cmpXN | aluGGMN | aluRRGG | aluRRSrc =>
    simp [run, aluAN, aluGN, aluRG, aluRSrc, cmpXN, aluGGMN, aluRRGG, aluRRSrc]
  | incR | incRR | incSrc | decR | decRR | decSrc =>
    simp [run, incR, incRR, incSrc, decR, decRR, decSrc]
  | daa | das | mul | div | negCS => simp [run, mul]
  | shift8 | shift16 | swap | rold | rord => simp [run, shift8, shift16, swap, rold, rord]
  | bitGB | setXB | clrXB | bitSrcB | bitSrcA => simp [run, bitGB, setXB, clrXB, bitSrcB, bitSrcA]
  | ldCFGB | ldCFXB | ldCFSrcB | ldCFSrcA | xorCFGB | xorCFSrcB | setCF | clrCF | cplCF =>
    simp [run, ldCFGB, ldCFXB, ldCFSrcB, ldCFSrcA, xorCFGB, xorCFSrcB, setCF, clrCF, cplCF]
  | ldGBCF | ldSrcBCF | ldSrcACF => simp [run, ldGBCF, ldSrcBCF, ldSrcACF]
  | jrs | jrCC | jrCCLong | jrA | jpMN | jpGG | jpSrc =>
    simp [run, jrs, jrCC, jrCCLong, jrA, jpMN, jpGG, jpSrc]
  | callv | callMN | callGG | callSrc | ret | swi | nop => simp [run, callv, callMN, callGG, ret, swi, nop]

/-- A form that selects a bank writes no register of either. -/
theorem run_banks_of_selectsBank (f : Form) (s : State) (hf : formSelectsBank f = true) :
    (run f s).bank0 = s.bank0 ∧ (run f s).bank1 = s.bank1 := by
  cases f with
  | ldRBS | popPSW | ldPSW | reti | retn => exact ⟨rfl, rfl⟩
  | _ => exact absurd hf (by simp [formSelectsBank])

/-- Settles O56: an instruction runs its form, which stays in its bank or selects one. -/
theorem registerBanks : Obligations.RegisterBanks := by
  unfold Obligations.RegisterBanks
  intro s t i h
  obtain rfl : run i.form s = t := by simpa [exec_eq_run] using h
  cases hf : formSelectsBank i.form with
  | false =>
    have hs := run_staysInBank i.form s hf
    exact ⟨hs.other, fun hne => absurd hs.rbs hne, fun hc => by cases hc⟩
  | true =>
    obtain ⟨h0, h1⟩ := run_banks_of_selectsBank i.form s hf
    exact ⟨⟨fun _ => h0, fun _ => h1⟩, fun _ => rfl, fun _ => ⟨h0, h1⟩⟩

end Sys2Proof.Machine
end

