-- ==== Sys2Proof/Proofs/MemoryFamily.lean ====
section
/-!
PROOFS. The family `20_memory.md`: the addressing modes, IMF at data address 0x003A, and what a step does to the two
areas. Every state operation but a store leaves `State.areas` as it is, which one equation for each operation says; a
byte store keeps the code area and the canonical form. A form that stores nothing is a composition of the first kind
only, so it leaves the areas; one that stores keeps the code area and the canonical form.
-/

namespace Sys2Proof.Machine

open Sys2Proof

/-! Addressing modes (R58 to R67) -/

/-- Only `(+SP)` does anything before the address is formed (R63). -/
theorem srcBegin_eq (m : Src) (s : State) : srcBegin m s = if m = .incSP then s.withSp (s.sp + 1) else s := by
  cases m <;> simp [srcBegin]

/-- Only `(SP-)` does anything after the store (R64). -/
theorem dstEnd_eq (m : Dst) (s : State) : dstEnd m s = if m = .spDec then s.withSp (s.sp - 1) else s := by
  cases m <;> simp [dstEnd]

/-- Settles O45: the address of each mode is its clause of `srcAddr` or `dstAddr`. -/
theorem addressingModes : Obligations.AddressingModes := by
  unfold Obligations.AddressingModes
  intro s x d vw
  refine ⟨?_, ?_, fun m => srcBegin_eq m s, fun m => dstEnd_eq m s⟩
  · exact ⟨rfl, rfl, rfl, rfl, rfl, rfl, rfl, rfl, rfl, rfl, rfl, rfl, rfl⟩
  · exact ⟨rfl, rfl, rfl, rfl, rfl, rfl, rfl, rfl, rfl, rfl, rfl, rfl⟩

/-! IMF at data address 0x003A (R57) -/

/-- The bits of a byte after one of them is replaced (R250). -/
theorem bitOf_setBit (v : Byte) (k j : Nat) (c : Bool) (hk : k < 8) :
    bitOf (setBit v k c) j = if j = k then c else bitOf v j := by
  unfold bitOf setBit
  by_cases hj : j = k
  · subst hj
    cases c <;> simp [hk]
  · have hbit : (1#8 <<< k).getLsbD j = false := by
      simp only [BitVec.getLsbD_shiftLeft, BitVec.getLsbD_one]
      grind
    cases c
    · rw [if_neg (by decide), if_neg hj, BitVec.getLsbD_and, BitVec.getLsbD_not, hbit]
      have hlt := BitVec.lt_of_getLsbD (x := v) (i := j)
      grind
    · rw [if_pos rfl, if_neg hj, BitVec.getLsbD_or, hbit, Bool.or_false]

/-- A read of 0x003A gives the cell's byte with IMF as bit 0. -/
theorem memRead8_imfAddr (s : State) :
    memRead8 s Config.imfAddr = setBit (memGet s.data Config.imfAddr.toNat) 0 s.imf :=
  if_pos rfl

/-- Settles O46: bit 0 of the byte read is IMF, the others are the cell's; the write is read back whole. -/
theorem imfAtDataAddress3A : Obligations.ImfAtDataAddress3A := by
  unfold Obligations.ImfAtDataAddress3A
  intro s v h
  have hread := memRead8_imfAddr s
  refine ⟨?_, fun k hk => ?_, memWrite8_imf s _ v, ?_⟩
  · exact (congrArg (bitOf · 0) hread).trans (bitOf_setBit _ 0 0 _ (by decide))
  · exact (congrArg (bitOf · k) hread).trans ((bitOf_setBit _ 0 k _ (by decide)).trans (if_neg (by omega)))
  · rw [memRead8_memWrite8 s ((State.wf_iff s).1 h).1, if_pos rfl]

/-! The two areas and IMF, as one value -/

/-- What a state keeps in memory: the two areas, and IMF, which is bit 0 of data address 0x003A (R57). -/
structure Areas where
  data : Mem
  code : Mem
  imf : Bool

/-- The areas of a state. -/
def State.areas (s : State) : Areas := { data := s.data, code := s.code, imf := s.imf }

theorem State.areas_ext {s t : State} (hd : t.data = s.data) (hc : t.code = s.code) (hi : t.imf = s.imf) :
    t.areas = s.areas := by
  unfold State.areas; rw [hd, hc, hi]

/-! One rule per state operation that is no store: it leaves the areas. -/

section update
variable (s : State)

@[simp] theorem areas_withSp (v : Word) : (s.withSp v).areas = s.areas := rfl
@[simp] theorem areas_withPc (v : Word) : (s.withPc v).areas = s.areas := rfl
@[simp] theorem areas_withPsw (p : Psw) : (s.withPsw p).areas = s.areas := rfl
@[simp] theorem areas_advance (k : Nat) : (s.advance k).areas = s.areas := rfl
@[simp] theorem areas_drawn : (drawn s).areas = s.areas := State.areas_ext rfl rfl rfl
@[simp] theorem areas_setJ (j : Bool) : (setJ s j).areas = s.areas := rfl
@[simp] theorem areas_setJZ (j z : Bool) : (setJZ s j z).areas = s.areas := rfl
@[simp] theorem areas_setJC (j c : Bool) : (setJC s j c).areas = s.areas := rfl
@[simp] theorem areas_setJZC (j z c : Bool) : (setJZC s j z c).areas = s.areas := rfl
@[simp] theorem areas_setLoadFlags (v : Byte) : (setLoadFlags s v).areas = s.areas := rfl
@[simp] theorem areas_loadCF (c : Bool) : (loadCF s c).areas = s.areas := rfl
@[simp] theorem areas_setAluFlags8 (op : AluOp) (o : AluOut 8) : (setAluFlags8 op o s).areas = s.areas := rfl

@[simp] theorem areas_setAluFlags16 (op : AluOp) (o : AluOut 16) : (setAluFlags16 op o s).areas = s.areas :=
  State.areas_ext (by simp) (by simp) (by simp)

@[simp] theorem areas_writeR8 (r : Reg8) (v : Byte) : (writeR8 s r v).areas = s.areas :=
  State.areas_ext (by simp) (by simp) (by simp)

@[simp] theorem areas_writeR16 (r : Reg16) (v : Word) : (writeR16 s r v).areas = s.areas :=
  State.areas_ext (by simp) (by simp) (by simp)

@[simp] theorem areas_srcBegin (m : Src) : (srcBegin m s).areas = s.areas :=
  State.areas_ext (by simp) (by simp) (by simp)

@[simp] theorem areas_dstEnd (m : Dst) : (dstEnd m s).areas = s.areas :=
  State.areas_ext (by simp) (by simp) (by simp)

@[simp] theorem areas_alu8 (op : AluOp) (r : Reg8) (y : Byte) : (alu8 op r y s).areas = s.areas := by
  unfold alu8 aluStore8
  split <;> simp

@[simp] theorem areas_alu16 (op : AluOp) (r : Reg16) (y : Word) : (alu16 op r y s).areas = s.areas := by
  unfold alu16 aluStore16
  split <;> simp

@[simp] theorem areas_adjustUnlisted (g : Reg8) : (adjustUnlisted g s).areas = s.areas := by
  simp [adjustUnlisted]

@[simp] theorem areas_daa (g : Reg8) : (daa g s).areas = s.areas := by
  simp only [daa, areas_advance]
  split <;> simp

@[simp] theorem areas_das (g : Reg8) : (das g s).areas = s.areas := by
  simp only [das, areas_advance]
  split <;> simp

@[simp] theorem areas_div (p : DivPair) : (div p s).areas = s.areas := by
  simp only [div, areas_advance]
  split <;> simp

@[simp] theorem areas_negCS (gg : Reg16) : (negCS gg s).areas = s.areas := by
  simp only [negCS, areas_advance, areas_setJ]
  split <;> simp

@[simp] theorem areas_relJump (taken : Bool) (target : Word) (len : Nat) :
    (relJump taken target len s).areas = s.areas := rfl

end update

/-- A form that stores nothing leaves the areas, IMF included; `RETI` and `RETN` take IMF from the stack (R360). The
cases are the families of the opcode table. -/
theorem areas_run_of_not_stores (f : Form) (s : State) (hf : formStores f = false) (hreti : f ≠ .reti)
    (hretn : f ≠ .retn) : (run f s).areas = s.areas := by
  cases f with
  | reti => exact absurd rfl hreti
  | retn => exact absurd rfl hretn
  | ldAR | ldRA | ldRG | ldRRGG | ldRN | ldRRMN | ldSPAdd | ldSPSub | xchRG | xchRRGG | popPair | popIndex =>
    simp [run, ldAR, ldRA, ldRG, ldRRGG, ldRN, ldRRMN, ldSPAdd, ldSPSub, xchRG, xchRRGG, popPair, popIndex]
  | ldAX | ldAHL | ldRSrc | ldRRSrc => simp [run, ldAX, ldAHL, ldRSrc, ldRRSrc]
  | ldRBS | popPSW | ldPSW => simp [run, ldRBS, popPSW, ldPSW]
  | aluAN | aluGN | aluRG | aluRSrc | cmpXN | aluGGMN | aluRRGG | aluRRSrc =>
    simp [run, aluAN, aluGN, aluRG, aluRSrc, cmpXN, aluGGMN, aluRRGG, aluRRSrc]
  | aluSrcN op m n =>
    have hop : aluWrites op = false := hf
    simp [run, aluSrcN, hop]
  | incR | incRR | decR | decRR => simp [run, incR, incRR, decR, decRR]
  | daa | das | mul | div | negCS => simp [run, mul]
  | shift8 | shift16 | swap => simp [run, shift8, shift16, swap]
  | bitGB | ldGBCF => simp [run, bitGB, ldGBCF]
  | ldCFGB | ldCFXB | ldCFSrcB | ldCFSrcA | xorCFGB | xorCFSrcB | setCF | clrCF | cplCF =>
    simp [run, ldCFGB, ldCFXB, ldCFSrcB, ldCFSrcA, xorCFGB, xorCFSrcB, setCF, clrCF, cplCF]
  | jrs | jrCC | jrCCLong | jrA | jpMN | jpGG | jpSrc =>
    simp [run, jrs, jrCC, jrCCLong, jrA, jpMN, jpGG, jpSrc]
  | ret | nop => simp [run, ret, nop]
  | _ => exact absurd hf (by simp [formStores])

/-- Settles O57: a form that stores nothing leaves the areas, or is a return, which leaves all of them but IMF. -/
theorem onlyStoresChangeMemory : Obligations.OnlyStoresChangeMemory := by
  unfold Obligations.OnlyStoresChangeMemory
  intro s t i h hf
  obtain rfl : run i.form s = t := by simpa [exec_eq_run] using h
  generalize i.form = f at hf
  have hkeep := areas_run_of_not_stores f s hf
  have hdata : (run f s).data = s.data := by
    by_cases hreti : f = .reti
    · rw [hreti]; rfl
    by_cases hretn : f = .retn
    · rw [hretn]; rfl
    exact congrArg Areas.data (hkeep hreti hretn)
  refine ⟨hdata, fun b hb => memRead8_of_data s _ b hb hdata, fun hreti hretn => ?_⟩
  have himf := congrArg Areas.imf (hkeep hreti hretn)
  exact ⟨memRead8_of_eq s _ hdata himf, himf⟩

/-! What a store keeps: the code area and the canonical form -/

/-- The canonical form of the areas; IMF is free. -/
def Areas.Canonical (p : Areas) : Prop :=
  memWf p.data = true ∧ memWf p.code = true ∧ bitOf (memGet p.data Config.imfAddr.toNat) 0 = false

theorem canonical_areas (s : State) : s.areas.Canonical ↔ s.wf = true := (State.wf_iff s).symm

/-- The code area is the same, and the canonical form is kept. -/
structure Areas.KeepsForm (p q : Areas) : Prop where
  code : q.code = p.code
  canonical : p.Canonical → q.Canonical

@[simp] theorem Areas.KeepsForm.refl (p : Areas) : p.KeepsForm p := ⟨rfl, id⟩

theorem Areas.KeepsForm.of_wf {s t : State} (hc : t.code = s.code) (hwf : s.wf = true → t.wf = true) :
    s.areas.KeepsForm t.areas :=
  ⟨hc, by simpa only [canonical_areas] using hwf⟩

theorem Areas.KeepsForm.trans {p q r : Areas} (h : p.KeepsForm q) (k : q.KeepsForm r) : p.KeepsForm r :=
  ⟨k.code.trans h.code, fun hp => k.canonical (h.canonical hp)⟩

section store
variable {p : Areas} {t : State} (h : p.KeepsForm t.areas)
include h

@[simp] theorem keepsForm_memWrite8 (a : Word) (v : Byte) : p.KeepsForm (memWrite8 t a v).areas :=
  h.trans (.of_wf rfl fun hwf => wf_memWrite8 t hwf a v)

@[simp] theorem keepsForm_memWrite16 (a v : Word) : p.KeepsForm (memWrite16 t a v).areas :=
  keepsForm_memWrite8 (keepsForm_memWrite8 h _ _) _ _

@[simp] theorem keepsForm_push16 (v : Word) : p.KeepsForm (push16 t v).areas :=
  keepsForm_memWrite8 (keepsForm_memWrite8 h _ _) _ _

@[simp] theorem keepsForm_memBit (op : BitOp) (a : Word) (k : Nat) : p.KeepsForm (memBit op a k t).areas :=
  keepsForm_memWrite8 h _ _

@[simp] theorem keepsForm_enterException (ret vector : Word) :
    p.KeepsForm (enterException t ret vector).areas :=
  h.trans (.of_wf (enterException_code t ret vector) fun hwf => wf_enterException t hwf ret vector)

/-- `CALL (+SP)` interleaves its push with the read of the target (R326); every other mode pushes first. -/
@[simp] theorem keepsForm_callSrc (m : Src) : p.KeepsForm (callSrc m t).areas := by
  unfold callSrc
  split
  · simp [callIncSP, h]
  · simp [callPushed, h]

end store

/-- A form that stores keeps the code area and the canonical form: beside leaving the areas it makes stores only. -/
theorem keepsForm_run_of_stores (f : Form) (s : State) (hf : formStores f = true) :
    s.areas.KeepsForm (run f s).areas := by
  cases f with
  | ldXA | ldHLA | ldXN | ldHLN | ldwXMN | ldwHLMN | ldDstR | ldDstRR | ldDstN =>
    simp [run, ldXA, ldHLA, ldXN, ldHLN, ldwXMN, ldwHLMN, ldDstR, ldDstRR, ldDstN]
  | pushPair | pushIndex | pushPSW => simp [run, pushPair, pushIndex, pushPSW]
  | xchRSrc | xchRRSrc => simp [run, xchRSrc, xchRRSrc]
  | aluSrcN op m n =>
    have hop : aluWrites op = true := hf
    simp [run, aluSrcN, hop]
  | incSrc | decSrc => simp [run, incSrc, decSrc]
  | rold | rord => simp [run, rold, rord]
  | setXB | clrXB | bitSrcB | bitSrcA => simp [run, setXB, clrXB, bitSrcB, bitSrcA]
  | ldSrcBCF | ldSrcACF => simp [run, ldSrcBCF, ldSrcACF]
  | callv | callMN | callGG | callSrc | swi => simp [run, callv, callMN, callGG, swi]
  | _ => exact absurd hf (by simp [formStores])

/-- Every form keeps the code area and the canonical form (R51). -/
theorem keepsForm_run (f : Form) (s : State) : s.areas.KeepsForm (run f s).areas := by
  cases hf : formStores f with
  | true => exact keepsForm_run_of_stores f s hf
  | false =>
    by_cases hreti : f = .reti
    · rw [hreti]; exact ⟨rfl, id⟩
    by_cases hretn : f = .retn
    · rw [hretn]; exact ⟨rfl, id⟩
    rw [areas_run_of_not_stores f s hf hreti hretn]
    exact .refl s.areas

/-- So does whatever is taken at an instruction boundary (R356, R380). -/
theorem keepsForm_takeEvent (s t : State) (h : takeEvent s = some t) : s.areas.KeepsForm t.areas := by
  obtain ⟨-, rfl⟩ | ⟨source, -, -, -, rfl⟩ := takeEvent_cases s t h
  · exact .of_wf rfl (wf_resetEvent s)
  · exact .of_wf (enterException_code _ _ _) fun hwf => wf_enterInterrupt s hwf source

/-- So does every step. -/
theorem keepsForm_step (s t : State) (h : step s = .next t) : s.areas.KeepsForm t.areas := by
  obtain he | ⟨-, i, -, hi⟩ := step_cases s t h
  · exact keepsForm_takeEvent s t he
  · obtain rfl : run i.form s = t := by simpa [exec_eq_run] using hi
    exact keepsForm_run i.form s

/-- Settles O52: what is taken at the boundary and every form keep the canonical form. -/
theorem stepKeepsCanonicalForm : Obligations.StepKeepsCanonicalForm := by
  unfold Obligations.StepKeepsCanonicalForm
  intro s t hwf h
  exact (canonical_areas t).1 ((keepsForm_step s t h).canonical ((canonical_areas s).2 hwf))

/-- Settles O55, by induction on the run. -/
theorem codeAreaIsReadOnly : Obligations.CodeAreaIsReadOnly := by
  unfold Obligations.CodeAreaIsReadOnly
  intro s t h
  induction h with
  | refl => rfl
  | tail t u _ hstep ih => exact (keepsForm_step t u hstep).code.trans ih

end Sys2Proof.Machine
end

