-- ==== Sys2Proof/Proofs/EncodingFamily.lean ====
section
/-!
PROOFS. The family `30_encoding.md`: decoding undoes encoding, no bit is ignored, the undefined codes are those of R111,
and a step runs what is decoded. One equation for each kind of first opcode says how `decodeForm` goes on (R83): after
a source memory byte, a destination memory byte or a register byte it is that byte's own code map. Encoding then decodes
form by form. In the other direction every window begins with the bytes of a form, with an undefined first code, or with
one of the three kinds of byte that a code map follows (`WindowShape`); each code map answers a form whose encoding
begins the bytes read, or nothing exactly at the codes of R111.
-/

namespace Sys2Proof

open Machine Laws

/-! Fields of an opcode byte (R85) -/

section fields
variable (hi : BitVec 5) (h2 : BitVec 2) (mid lo : BitVec 3)

@[simp] theorem high5_op53 : high5 (op53 hi lo) = hi := by revert hi lo; decide

@[simp] theorem low3_op53 : low3 (op53 hi lo) = lo := by revert hi lo; decide

@[simp] theorem high2_op53 : high2 (op53 hi lo) = hi.extractLsb' 3 2 := by revert hi lo; decide

@[simp] theorem high2_op233 : high2 (op233 h2 mid lo) = h2 := by revert h2 mid lo; decide

@[simp] theorem mid3_op233 : mid3 (op233 h2 mid lo) = mid := by revert h2 mid lo; decide

@[simp] theorem low3_op233 : low3 (op233 h2 mid lo) = lo := by revert h2 mid lo; decide

end fields

section fields
variable {b : Byte}

theorem op53_of_high5 {hi : BitVec 5} (h : high5 b = hi) : op53 hi (low3 b) = b := by
  subst h; revert b; decide

theorem op233_of_high2 {h2 : BitVec 2} (h : high2 b = h2) : op233 h2 (mid3 b) (low3 b) = b := by
  subst h; revert b; decide

/-- The eight bytes of a row of the first-opcode map. -/
theorem eq_op53_of_high5 {hi : BitVec 5} (h : high5 b = hi) :
    b = op53 hi 0 ∨ b = op53 hi 1 ∨ b = op53 hi 2 ∨ b = op53 hi 3 ∨ b = op53 hi 4 ∨ b = op53 hi 5 ∨
      b = op53 hi 6 ∨ b = op53 hi 7 := by
  subst h; revert b; decide

/-- The vector number of `CALLV n` takes one bit of the row. -/
theorem callv_of_high5 (h : high5 b = 0b01110 ∨ high5 b = 0b01111) : 0b0111#4 ++ b.extractLsb' 0 4 = b := by
  revert b; decide

/-- The displacement of `JRS T,a` takes two bits of the row. -/
theorem jrsT_of_high5 (h : high5 b = 0b10000 ∨ high5 b = 0b10001 ∨ high5 b = 0b10010 ∨ high5 b = 0b10011) :
    0b100#3 ++ b.extractLsb' 0 5 = b := by
  revert b; decide

/-- As `jrsT_of_high5`, for `JRS F,a`. -/
theorem jrsF_of_high5 (h : high5 b = 0b10100 ∨ high5 b = 0b10101 ∨ high5 b = 0b10110 ∨ high5 b = 0b10111) :
    0b101#3 ++ b.extractLsb' 0 5 = b := by
  revert b; decide

end fields

/-- The byte of `CALLV n` lies in one of its two rows and holds `n`. -/
theorem callv_byte (n : BitVec 4) :
    (high5 (0b0111#4 ++ n) = 0b01110 ∨ high5 (0b0111#4 ++ n) = 0b01111) ∧
      (0b0111#4 ++ n).extractLsb' 0 4 = n := by
  revert n; decide

/-- The byte of `JRS T,a` lies in one of its four rows and holds the displacement. -/
theorem jrsT_byte (d : BitVec 5) :
    (high5 (0b100#3 ++ d) = 0b10000 ∨ high5 (0b100#3 ++ d) = 0b10001 ∨ high5 (0b100#3 ++ d) = 0b10010 ∨
      high5 (0b100#3 ++ d) = 0b10011) ∧ (0b100#3 ++ d).extractLsb' 0 5 = d := by
  revert d; decide

/-- As `jrsT_byte`, for `JRS F,a`. -/
theorem jrsF_byte (d : BitVec 5) :
    (high5 (0b101#3 ++ d) = 0b10100 ∨ high5 (0b101#3 ++ d) = 0b10101 ∨ high5 (0b101#3 ++ d) = 0b10110 ∨
      high5 (0b101#3 ++ d) = 0b10111) ∧ (0b101#3 ++ d).extractLsb' 0 5 = d := by
  revert d; decide

/-! Codes (R22, R23, R86, R87): reading a code undoes writing it, and the other way round. -/

@[simp] theorem Reg8.ofCode_code (r : Reg8) : Reg8.ofCode r.code = r := by cases r <;> rfl

@[simp] theorem Reg16.ofCode_code (r : Reg16) : Reg16.ofCode r.code = r := by cases r <;> rfl

@[simp] theorem AluOp.ofCode_code (op : AluOp) : AluOp.ofCode op.code = op := by cases op <;> rfl

@[simp] theorem Cond.ofCode_code (c : Cond) : Cond.ofCode c.code = c := by cases c <;> rfl

@[simp] theorem CondLong.ofCode_code (c : CondLong) : CondLong.ofCode c.code = c := by cases c <;> rfl

@[simp] theorem Reg8.code_ofCode (c : BitVec 3) : (Reg8.ofCode c).code = c := by revert c; decide

@[simp] theorem Reg16.code_ofCode (c : BitVec 3) : (Reg16.ofCode c).code = c := by revert c; decide

@[simp] theorem AluOp.code_ofCode (c : BitVec 3) : (AluOp.ofCode c).code = c := by revert c; decide

@[simp] theorem Cond.code_ofCode (c : BitVec 3) : (Cond.ofCode c).code = c := by revert c; decide

@[simp] theorem CondLong.code_ofCode (c : BitVec 3) : (CondLong.ofCode c).code = c := by revert c; decide

theorem Reg16.below7_iff (r : Reg16) : r.below7 = true ↔ r.code ≠ 7#3 := by cases r <;> decide

theorem Reg16.below7_ofCode (c : BitVec 3) : (Reg16.ofCode c).below7 = true ↔ c ≠ 7#3 := by
  rw [Reg16.below7_iff, Reg16.code_ofCode]

/-! Forms and instructions -/

/-- The instruction of a form has that form. -/
@[simp] theorem form_ofForm (f : Form) : (Instr.ofForm f).form = f := by
  cases f with
  | aluAN op | aluRG op | aluGN op | aluGGMN op | aluRRGG op => cases op <;> rfl
  | bitGB op | shift8 op | shift16 op => cases op <;> rfl
  | jrCC c | jrCCLong c => cases c <;> rfl
  | jrs t | ldRBS t => cases t <;> rfl
  | pushIndex g | popIndex g => cases g <;> rfl
  | mul p | div p => cases p <;> rfl
  | aluRSrc op r m | aluSrcN op m | aluRRSrc op r m => cases op <;> cases m <;> rfl
  | bitSrcB op m | bitSrcA op m => cases op <;> cases m <;> rfl
  | ldRSrc r m | ldRRSrc r m | xchRSrc r m | xchRRSrc r m => cases m <;> rfl
  | xorCFSrcB m | ldCFSrcB m | ldSrcBCF m | ldSrcACF m | ldCFSrcA m => cases m <;> rfl
  | incSrc m | decSrc m | rold m | rord m | callSrc m | jpSrc m => cases m <;> rfl
  | ldDstRR m | ldDstR m | ldDstN m => cases m <;> rfl
  | _ => rfl

/-- Whether an instruction is well-formed is a matter of its form: one case for each constructor. -/
theorem wf_eq_formEncodable (i : Instr) : i.wf = formEncodable i.form := by
  cases i <;> rfl

theorem decode_eq_ok {w : Window} {i : Instr} :
    decode w = .ok i ↔ ∃ f, decodeForm w = .ok f ∧ Instr.ofForm f = i := by
  unfold decode
  cases decodeForm w <;> simp

theorem decode_eq_undefined {w : Window} {code : List Byte} :
    decode w = .undefined code ↔ decodeForm w = .undefined code := by
  unfold decode
  cases decodeForm w <;> simp

@[simp] theorem decodedOr_eq_ok {o : Option Form} {l : List Byte} {f : Form} :
    decodedOr o l = .ok f ↔ o = some f := by
  cases o <;> simp [decodedOr]

@[simp] theorem decodedOr_eq_undefined {o : Option Form} {l code : List Byte} :
    decodedOr o l = .undefined code ↔ o = none ∧ l = code := by
  cases o <;> simp [decodedOr]

/-! How `decodeForm` goes on after each kind of first opcode (R83, R90) -/

@[simp] theorem decodeForm_src (m : Src) (t : List Byte) : decodeForm (windowOf (m.bytes ++ t)) =
    decodedOr (decodeSrc m (t.getD 0 0) (t.getD 1 0)) (m.bytes ++ [t.getD 0 0]) := by
  cases m <;> simp [Src.bytes, decodeForm, windowOf, high5, low3, srcAt1, srcAt2, srcAt3]

@[simp] theorem decodeForm_dst (m : Dst) (t : List Byte) : decodeForm (windowOf (m.bytes ++ t)) =
    decodedOr (decodeDst m (t.getD 0 0) (t.getD 1 0)) (m.bytes ++ [t.getD 0 0]) := by
  cases m <;> simp [Dst.bytes, decodeForm, windowOf, high5, dstAt1, dstAt2, dstAt3]

@[simp] theorem decodeForm_reg (c : BitVec 3) (t : List Byte) : decodeForm (windowOf (regByte c :: t)) =
    decodedOr (decodeReg c (t.getD 0 0) (t.getD 1 0) (t.getD 2 0)) [regByte c, t.getD 0 0] := by
  simp [decodeForm, windowOf, regByte]

/-- The undefined first bytes are a row and four bytes of other rows. -/
theorem undefinedFirst_cases {b : Byte} (h : undefinedFirst b) :
    high5 b = 0b01101 ∨ b = 0x01 ∨ b = 0x02 ∨ b = 0x03 ∨ b = 0xF8 := by
  unfold undefinedFirst at h
  revert b; decide

theorem decodeForm_first {w : Window} (h : undefinedFirst w.b0) : decodeForm w = .undefined [w.b0] := by
  obtain ⟨b, x, n, y, z⟩ := w
  obtain h | rfl | rfl | rfl | rfl := undefinedFirst_cases h
  · simp [decodeForm, h]
  all_goals simp [decodeForm, high5]

/-- `LD RBS,n` has two defined second bytes. -/
theorem decodeForm_bank {w : Window} (h : w.b0 = 0xF9) (h0 : w.b1 ≠ 0x00#8) (h2 : w.b1 ≠ 0x02#8) :
    decodeForm w = .undefined [w.b0, w.b1] := by
  simp [decodeForm, high5, h, h0, h2]

/-! Decoding undoes encoding -/

/-- The bytes of an encodable form decode to it, whatever follows them. The cases are the families of the opcode
table. -/
theorem decodeForm_encode (f : Form) (rest : List Byte) (hf : formEncodable f = true) :
    decodeForm (windowOf (f.encode ++ rest)) = .ok f := by
  cases f with
  -- the whole first byte is fixed
  | nop | clrCF | setCF | cplCF | cmpXN | ret | reti | jrA | swi | callMN | jpMN =>
    simp [Form.encode, decodeForm, windowOf, high5]
  | ldwXMN | ldwHLMN | ldXN | ldHLN | ldAX | ldAHL | ldXA | ldHLA | ldSPAdd | ldSPSub =>
    simp [Form.encode, decodeForm, windowOf, high5, low3]
  | pushPair p | popPair p =>
    cases p <;> simp [Form.encode, decodeForm, windowOf, Pair.code, op53, high5]
  | ldRBS n => cases n <;> simp [Form.encode, decodeForm, windowOf, high5]
  -- the first byte has a field
  | ldAR | ldRN | incR | decR | ldRA | ldCFXB | aluAN | setXB | clrXB | jrCC =>
    simp [Form.encode, decodeForm, windowOf]
  | incRR rr | decRR rr | ldRRMN rr =>
    simp [Form.encode, decodeForm, windowOf, (Reg16.below7_iff rr).1 hf]
  | callv n =>
    obtain ⟨hrow | hrow, hn⟩ := callv_byte n <;> simp [Form.encode, decodeForm, windowOf, hrow, hn]
  | jrs sense d =>
    cases sense with
    | true =>
      obtain ⟨hrow | hrow | hrow | hrow, hd⟩ := jrsT_byte d <;>
        simp [Form.encode, decodeForm, windowOf, hrow, hd]
    | false =>
      obtain ⟨hrow | hrow | hrow | hrow, hd⟩ := jrsF_byte d <;>
        simp [Form.encode, decodeForm, windowOf, hrow, hd]
  -- after a register byte
  | aluRG | aluGN | aluGGMN | aluRRGG | ldRG | xorCFGB | ldCFGB | xchRG | jrCCLong | ldGBCF =>
    simp [Form.encode, decodeReg]
  | ldRRGG rr | xchRRGG rr => simp [Form.encode, decodeReg, (Reg16.below7_iff rr).1 hf]
  | bitGB op => cases op <;> simp [Form.encode, BitOp.high, decodeReg]
  | pushIndex g | popIndex g => cases g <;> simp [Form.encode, decodeReg, IndexReg.code, high2, high5]
  | mul p | div p => cases p <;> simp [Form.encode, decodeReg, Pair.code, DivPair.code, high2, high5]
  | shift8 op | shift16 op =>
    cases op <;> simp [Form.encode, decodeReg, Shift8.code, Shift16.code, high2, high5]
  | daa | das | pushPSW | popPSW | ldPSW | negCS | retn | callGG | jpGG | swap =>
    simp [Form.encode, decodeReg, high2, high5]
  -- after a source memory byte
  | aluRSrc | aluSrcN | aluRRSrc | ldRSrc | xorCFSrcB | ldCFSrcB | xchRSrc | xchRRSrc | ldSrcBCF =>
    simp [Form.encode, decodeSrc]
  | ldRRSrc rr => simp [Form.encode, decodeSrc, (Reg16.below7_iff rr).1 hf]
  | bitSrcB op => cases op <;> simp [Form.encode, decodeSrc, BitOp.high]
  | bitSrcA op => cases op <;> simp [Form.encode, decodeSrc, BitOp.codeA, high2, high5]
  | incSrc | ldSrcACF | rold | rord | decSrc | ldCFSrcA | callSrc | jpSrc =>
    simp [Form.encode, decodeSrc, high2, high5]
  -- after a destination memory byte
  | ldDstRR m rr => simp [Form.encode, decodeDst, (Reg16.below7_iff rr).1 hf]
  | ldDstR => simp [Form.encode, decodeDst]
  | ldDstN => simp [Form.encode, decodeDst, high5]

/-- Settles O53: the form is decoded, and the basic instruction is that of the form. -/
theorem decodeOfEncode : Obligations.DecodeOfEncode := by
  unfold Obligations.DecodeOfEncode
  intro i rest hwf
  rw [wf_eq_formEncodable] at hwf
  have hform : i.basic.form = i.form := form_ofForm i.form
  refine ⟨decode_eq_ok.2 ⟨i.form, decodeForm_encode i.form rest hwf, rfl⟩, hform, fun s => ?_⟩
  rw [exec_eq_run, exec_eq_run, hform]

/-! What the code maps after a first opcode answer (R91 to R93). Each proof has one goal for each cell of the map:
a cell of a row puts the row and the field together again, a cell of its own is a literal, an undefined one answers
nothing. -/

section codeMap
variable {f : Form}

theorem encode_of_decodeReg {c : BitVec 3} {b n m : Byte} (h : decodeReg c b n m = some f) :
    formEncodable f = true ∧ f.encode <+: [regByte c, b, n, m] := by
  unfold decodeReg at h
  dsimp only [BitVec.ofNat_eq_ofNat] at h
  repeat' split at h
  all_goals cases h
  all_goals simp [formEncodable, Form.encode, op53_of_high5, op233_of_high2, Reg16.below7_ofCode, BitOp.high,
    Shift8.code, Shift16.code, Pair.code, DivPair.code, IndexReg.code, *]

theorem encode_of_decodeSrc {m : Src} {b n : Byte} (h : decodeSrc m b n = some f) :
    formEncodable f = true ∧ f.encode <+: m.bytes ++ [b, n] := by
  unfold decodeSrc at h
  dsimp only [BitVec.ofNat_eq_ofNat] at h
  repeat' split at h
  all_goals cases h
  all_goals simp [formEncodable, Form.encode, op53_of_high5, op233_of_high2, Reg16.below7_ofCode, BitOp.high,
    BitOp.codeA, *]

theorem encode_of_decodeDst {m : Dst} {b n : Byte} (h : decodeDst m b n = some f) :
    formEncodable f = true ∧ f.encode <+: m.bytes ++ [b, n] := by
  unfold decodeDst at h
  dsimp only [BitVec.ofNat_eq_ofNat] at h
  repeat' split at h
  all_goals cases h
  all_goals simp [formEncodable, Form.encode, op53_of_high5, Reg16.below7_ofCode, *]

end codeMap

/-! Whether a code is undefined does not depend on the operands, so the codes of R111 can be compared with the map
cell by cell. -/

theorem decodeReg_isNone (c : BitVec 3) (b n m : Byte) :
    (decodeReg c b n m).isNone = (decodeReg c b 0 0).isNone := by
  simp only [decodeReg]
  repeat' split
  all_goals rfl

theorem decodeSrc_isNone (m : Src) (b n : Byte) : (decodeSrc m b n).isNone = (decodeSrc .de b 0).isNone := by
  simp only [decodeSrc]
  repeat' split
  all_goals rfl

theorem decodeDst_isNone (m : Dst) (b n : Byte) : (decodeDst m b n).isNone = (decodeDst .de b 0).isNone := by
  simp only [decodeDst]
  repeat' split
  all_goals rfl

theorem decodeReg_eq_none (c : BitVec 3) (b n m : Byte) :
    decodeReg c b n m = none ↔ undefinedAfterReg (regByte c) b := by
  rw [← Option.isNone_iff_eq_none, decodeReg_isNone]
  unfold undefinedAfterReg
  revert c b; decide

theorem decodeSrc_eq_none (m : Src) (b n : Byte) : decodeSrc m b n = none ↔ undefinedAfterSrc b := by
  rw [← Option.isNone_iff_eq_none, decodeSrc_isNone]
  unfold undefinedAfterSrc
  revert b; decide

theorem decodeDst_eq_none (m : Dst) (b n : Byte) : decodeDst m b n = none ↔ undefinedAfterDst b := by
  rw [← Option.isNone_iff_eq_none, decodeDst_isNone]
  unfold undefinedAfterDst
  revert b; decide

/-! What a window can begin with (R90) -/

/-- The bytes of an encodable form, an undefined first code, or a byte that one of the three code maps follows. -/
inductive WindowShape (w : Window) : Prop where
  | form (f : Form) (hf : formEncodable f = true) (t : List Byte) (hw : windowBytes w = f.encode ++ t)
  | first (h : undefinedFirst w.b0)
  | bank (h : w.b0 = 0xF9) (h0 : w.b1 ≠ 0x00#8) (h2 : w.b1 ≠ 0x02#8)
  | reg (c : BitVec 3) (b n m : Byte) (t : List Byte) (hw : windowBytes w = regByte c :: b :: n :: m :: t)
  | src (m : Src) (b n : Byte) (t : List Byte) (hw : windowBytes w = m.bytes ++ b :: n :: t)
  | dst (m : Dst) (b n : Byte) (t : List Byte) (hw : windowBytes w = m.bytes ++ b :: n :: t)

/-! The rows of the first-opcode map whose eight bytes differ in kind -/

section row
variable {b x n y z : Byte}

theorem windowShape_control (h : high5 b = 0b00000) : WindowShape ⟨b, x, n, y, z⟩ := by
  rcases eq_op53_of_high5 h with rfl | rfl | rfl | rfl | rfl | rfl | rfl | rfl
  · exact .form .nop rfl _ rfl
  · exact .first (.inl rfl)
  · exact .first (.inr (.inl rfl))
  · exact .first (.inr (.inr (.inl rfl)))
  · exact .form .clrCF rfl _ rfl
  · exact .form .setCF rfl _ rfl
  · exact .form .cplCF rfl _ rfl
  · exact .form (.cmpXN x n) rfl _ rfl

theorem windowShape_shortLoad (h : high5 b = 0b00001) : WindowShape ⟨b, x, n, y, z⟩ := by
  rcases eq_op53_of_high5 h with rfl | rfl | rfl | rfl | rfl | rfl | rfl | rfl
  · exact .form (.ldwXMN x (wordOf y n)) rfl [z] (by simp [Form.encode, windowBytes]; rfl)
  · exact .form (.ldwHLMN (wordOf n x)) rfl [y, z] (by simp [Form.encode, windowBytes]; rfl)
  · exact .form (.ldXN x n) rfl _ rfl
  · exact .form (.ldHLN x) rfl _ rfl
  · exact .form (.ldAX x) rfl _ rfl
  · exact .form .ldAHL rfl _ rfl
  · exact .form (.ldXA x) rfl _ rfl
  · exact .form .ldHLA rfl _ rfl

theorem windowShape_push (h : high5 b = 0b01010) : WindowShape ⟨b, x, n, y, z⟩ := by
  rcases eq_op53_of_high5 h with rfl | rfl | rfl | rfl | rfl | rfl | rfl | rfl
  · exact .form (.pushPair .wa) rfl _ rfl
  · exact .form (.pushPair .bc) rfl _ rfl
  · exact .form (.pushPair .de) rfl _ rfl
  · exact .form (.pushPair .hl) rfl _ rfl
  · exact .dst (.ixd x) n y [z] rfl
  · exact .dst (.iyd x) n y [z] rfl
  · exact .dst (.spd x) n y [z] rfl
  · exact .dst (.hld x) n y [z] rfl

theorem windowShape_pop (h : high5 b = 0b11010) : WindowShape ⟨b, x, n, y, z⟩ := by
  rcases eq_op53_of_high5 h with rfl | rfl | rfl | rfl | rfl | rfl | rfl | rfl
  · exact .form (.popPair .wa) rfl _ rfl
  · exact .form (.popPair .bc) rfl _ rfl
  · exact .form (.popPair .de) rfl _ rfl
  · exact .form (.popPair .hl) rfl _ rfl
  · exact .src (.ixd x) n y [z] rfl
  · exact .src (.iyd x) n y [z] rfl
  · exact .src (.spd x) n y [z] rfl
  · exact .src (.hld x) n y [z] rfl

theorem windowShape_src (h : high5 b = 0b11100) : WindowShape ⟨b, x, n, y, z⟩ := by
  rcases eq_op53_of_high5 h with rfl | rfl | rfl | rfl | rfl | rfl | rfl | rfl
  · exact .src (.x x) n y [z] rfl
  · exact .src (.vw (wordOf n x)) y z [] (by simp [windowBytes, Src.bytes]; rfl)
  · exact .src .de x n [y, z] rfl
  · exact .src .hl x n [y, z] rfl
  · exact .src .ix x n [y, z] rfl
  · exact .src .iy x n [y, z] rfl
  · exact .src .incSP x n [y, z] rfl
  · exact .src .hlC x n [y, z] rfl

theorem windowShape_dst (h : high5 b = 0b11110) : WindowShape ⟨b, x, n, y, z⟩ := by
  rcases eq_op53_of_high5 h with rfl | rfl | rfl | rfl | rfl | rfl | rfl | rfl
  · exact .dst (.x x) n y [z] rfl
  · exact .dst (.vw (wordOf n x)) y z [] (by simp [windowBytes, Dst.bytes]; rfl)
  · exact .dst .de x n [y, z] rfl
  · exact .dst .hl x n [y, z] rfl
  · exact .dst .ix x n [y, z] rfl
  · exact .dst .iy x n [y, z] rfl
  · exact .dst .spDec x n [y, z] rfl
  · exact .dst .hlC x n [y, z] rfl

theorem windowShape_ldRBS : WindowShape ⟨0xF9, x, n, y, z⟩ := by
  by_cases h0 : x = 0x00
  · exact h0 ▸ .form (.ldRBS false) rfl _ rfl
  by_cases h2 : x = 0x02
  · exact h2 ▸ .form (.ldRBS true) rfl _ rfl
  · exact .bank rfl h0 h2

theorem windowShape_jump (h : high5 b = 0b11111) : WindowShape ⟨b, x, n, y, z⟩ := by
  rcases eq_op53_of_high5 h with rfl | rfl | rfl | rfl | rfl | rfl | rfl | rfl
  · exact .first (.inr (.inr (.inr (.inr rfl))))
  · exact windowShape_ldRBS
  · exact .form .ret rfl _ rfl
  · exact .form .reti rfl _ rfl
  · exact .form (.jrA x) rfl _ rfl
  · exact .form (.callMN (wordOf n x)) rfl [y, z] (by simp [Form.encode, windowBytes]; rfl)
  · exact .form (.jpMN (wordOf n x)) rfl [y, z] (by simp [Form.encode, windowBytes]; rfl)
  · exact .form .swi rfl _ rfl

/-! The rows of one form -/

theorem WindowShape.of_row {hi : BitVec 5} (h : high5 b = hi) (f : Form) (hf : formEncodable f = true) (t : List Byte)
    (hw : op53 hi (low3 b) :: [x, n, y, z] = f.encode ++ t) : WindowShape ⟨b, x, n, y, z⟩ :=
  .form f hf t (op53_of_high5 h ▸ hw)

theorem windowShape_callv (h : high5 b = 0b01110 ∨ high5 b = 0b01111) : WindowShape ⟨b, x, n, y, z⟩ :=
  .form (.callv (b.extractLsb' 0 4)) rfl [x, n, y, z] (by rw [Form.encode, callv_of_high5 h]; rfl)

theorem windowShape_jrsT
    (h : high5 b = 0b10000 ∨ high5 b = 0b10001 ∨ high5 b = 0b10010 ∨ high5 b = 0b10011) :
    WindowShape ⟨b, x, n, y, z⟩ :=
  .form (.jrs true (b.extractLsb' 0 5)) rfl [x, n, y, z] (by rw [Form.encode, if_pos rfl, jrsT_of_high5 h]; rfl)

theorem windowShape_jrsF
    (h : high5 b = 0b10100 ∨ high5 b = 0b10101 ∨ high5 b = 0b10110 ∨ high5 b = 0b10111) :
    WindowShape ⟨b, x, n, y, z⟩ :=
  .form (.jrs false (b.extractLsb' 0 5)) rfl [x, n, y, z]
    (by rw [Form.encode, if_neg (by decide), jrsF_of_high5 h]; rfl)

theorem windowShape_undefinedRow (h : high5 b = 0b01101) : WindowShape ⟨b, x, n, y, z⟩ :=
  have hb : 0x68#8 ≤ b ∧ b ≤ 0x6F#8 := by revert b; decide
  .first (.inr (.inr (.inr (.inl hb))))

end row

/-- Every window has a shape. The cases are the rows of the first-opcode map, in the order of `decodeForm`. -/
theorem windowShape (w : Window) : WindowShape w := by
  obtain ⟨b, x, n, y, z⟩ := w
  generalize hd : decodeForm ⟨b, x, n, y, z⟩ = d
  unfold decodeForm at hd
  dsimp only at hd
  split at hd <;> clear hd
  case h_1 h => exact windowShape_control h
  case h_2 h => exact windowShape_shortLoad h
  case h_3 h => exact .of_row h (.ldAR (.ofCode (low3 b))) rfl [x, n, y, z] (by simp [Form.encode])
  case h_4 h => exact .of_row h (.ldRN (.ofCode (low3 b)) x) rfl [n, y, z] (by simp [Form.encode])
  case h_5 h => exact .of_row h (.incR (.ofCode (low3 b))) rfl [x, n, y, z] (by simp [Form.encode])
  case h_6 h => exact .of_row h (.decR (.ofCode (low3 b))) rfl [x, n, y, z] (by simp [Form.encode])
  case h_7 h =>
    by_cases h7 : low3 b = 7
    · exact .of_row h (.ldSPAdd x) rfl [n, y, z] (by rw [h7]; rfl)
    · exact .of_row h (.incRR (.ofCode (low3 b))) ((Reg16.below7_ofCode _).2 h7) [x, n, y, z]
        (by simp [Form.encode])
  case h_8 h =>
    by_cases h7 : low3 b = 7
    · exact .of_row h (.ldSPSub x) rfl [n, y, z] (by rw [h7]; rfl)
    · exact .of_row h (.decRR (.ofCode (low3 b))) ((Reg16.below7_ofCode _).2 h7) [x, n, y, z]
        (by simp [Form.encode])
  case h_9 h => exact .of_row h (.ldRA (.ofCode (low3 b))) rfl [x, n, y, z] (by simp [Form.encode])
  case h_10 h =>
    by_cases h7 : low3 b = 7
    · exact .src .pcA x n [y, z] (by rw [← op53_of_high5 h, h7]; rfl)
    · exact .of_row h (.ldRRMN (.ofCode (low3 b)) (wordOf n x)) ((Reg16.below7_ofCode _).2 h7) [y, z]
        (by simp [Form.encode])
  case h_11 h => exact windowShape_push h
  case h_12 h => exact .of_row h (.ldCFXB x (low3 b)) rfl [n, y, z] rfl
  case h_13 h => exact .of_row h (.aluAN (.ofCode (low3 b)) x) rfl [n, y, z] (by simp [Form.encode])
  case h_14 h => exact windowShape_undefinedRow h
  case h_15 h | h_16 h => exact windowShape_callv (by simp [h])
  case h_17 h | h_18 h | h_19 h | h_20 h => exact windowShape_jrsT (by simp [h])
  case h_21 h | h_22 h | h_23 h | h_24 h => exact windowShape_jrsF (by simp [h])
  case h_25 h => exact .of_row h (.setXB x (low3 b)) rfl [n, y, z] rfl
  case h_26 h => exact .of_row h (.clrXB x (low3 b)) rfl [n, y, z] rfl
  case h_27 h => exact windowShape_pop h
  case h_28 h => exact .of_row h (.jrCC (.ofCode (low3 b)) x) rfl [n, y, z] (by simp [Form.encode])
  case h_29 h => exact windowShape_src h
  case h_30 h => exact .reg (low3 b) x n y [z] (by simp [windowBytes, regByte, op53_of_high5 h])
  case h_31 h => exact windowShape_dst h
  case h_32 =>
    simp only [imp_false] at *
    exact windowShape_jump (by bv_omega)

/-! No bit is ignored -/

theorem decodeForm_of_windowBytes {w : Window} {l : List Byte} (hw : windowBytes w = l) :
    decodeForm w = decodeForm (windowOf l) := by
  subst hw; rfl

/-- What decodes is encodable, and its encoding begins the bytes. -/
theorem encode_of_decodeForm {w : Window} {f : Form} (hd : decodeForm w = .ok f) :
    formEncodable f = true ∧ f.encode <+: windowBytes w := by
  cases windowShape w with
  | form g hg t hw =>
    rw [decodeForm_of_windowBytes hw, decodeForm_encode g t hg] at hd
    cases hd
    exact ⟨hg, t, hw.symm⟩
  | first h => rw [decodeForm_first h] at hd; cases hd
  | bank h h0 h2 => rw [decodeForm_bank h h0 h2] at hd; cases hd
  | reg c b n m t hw =>
    rw [decodeForm_of_windowBytes hw, decodeForm_reg, decodedOr_eq_ok] at hd
    obtain ⟨hf, hbegins⟩ := encode_of_decodeReg hd
    exact ⟨hf, hw ▸ hbegins.trans ⟨t, rfl⟩⟩
  | src m b n t hw =>
    rw [decodeForm_of_windowBytes hw, decodeForm_src, decodedOr_eq_ok] at hd
    obtain ⟨hf, hbegins⟩ := encode_of_decodeSrc hd
    exact ⟨hf, hw ▸ hbegins.trans ⟨t, by simp⟩⟩
  | dst m b n t hw =>
    rw [decodeForm_of_windowBytes hw, decodeForm_dst, decodedOr_eq_ok] at hd
    obtain ⟨hf, hbegins⟩ := encode_of_decodeDst hd
    exact ⟨hf, hw ▸ hbegins.trans ⟨t, by simp⟩⟩

/-- Settles O54: the instruction decoded is that of a form, whose encoding begins the bytes. -/
theorem decodeReadsEveryBit : Obligations.DecodeReadsEveryBit := by
  unfold Obligations.DecodeReadsEveryBit
  intro w i h
  obtain ⟨f, hd, rfl⟩ := decode_eq_ok.1 h
  obtain ⟨hf, t, ht⟩ := encode_of_decodeForm hd
  rw [wf_eq_formEncodable, Instr.length, encode, Instr.basic, form_ofForm, ← ht]
  exact ⟨hf, rfl, List.take_left⟩

/-! The memory bytes of R83 are the first bytes of the addressing modes -/

theorem srcOperands_bytes (m : Src) : ∃ k, m.bytes.length = k + 1 ∧ srcOperands (m.bytes.getD 0 0) k := by
  cases m with
  | vw => exact ⟨2, rfl, .inr (.inr ⟨rfl, rfl⟩)⟩
  | x | ixd | iyd | spd | hld => exact ⟨1, rfl, .inr (.inl ⟨rfl, by simp [Src.bytes]⟩)⟩
  | _ => exact ⟨0, rfl, .inl ⟨rfl, by simp [Src.bytes]⟩⟩

theorem dstOperands_bytes (m : Dst) : ∃ k, m.bytes.length = k + 1 ∧ dstOperands (m.bytes.getD 0 0) k := by
  cases m with
  | vw => exact ⟨2, rfl, .inr (.inr ⟨rfl, rfl⟩)⟩
  | x | ixd | iyd | spd | hld => exact ⟨1, rfl, .inr (.inl ⟨rfl, by simp [Dst.bytes]⟩)⟩
  | _ => exact ⟨0, rfl, .inl ⟨rfl, by simp [Dst.bytes]⟩⟩

section memoryByte
variable {p : Byte}

theorem src_noOperand (h : (0xE2#8 ≤ p ∧ p ≤ 0xE7#8) ∨ p = 0x4F) :
    p = 0xE2 ∨ p = 0xE3 ∨ p = 0xE4 ∨ p = 0xE5 ∨ p = 0xE6 ∨ p = 0xE7 ∨ p = 0x4F := by
  revert p; decide

theorem src_oneOperand (h : p = 0xE0 ∨ (0xD4#8 ≤ p ∧ p ≤ 0xD7#8)) :
    p = 0xE0 ∨ p = 0xD4 ∨ p = 0xD5 ∨ p = 0xD6 ∨ p = 0xD7 := by
  revert p; decide

theorem dst_noOperand (h : 0xF2#8 ≤ p ∧ p ≤ 0xF7#8) :
    p = 0xF2 ∨ p = 0xF3 ∨ p = 0xF4 ∨ p = 0xF5 ∨ p = 0xF6 ∨ p = 0xF7 := by
  revert p; decide

theorem dst_oneOperand (h : p = 0xF0 ∨ (0x54#8 ≤ p ∧ p ≤ 0x57#8)) :
    p = 0xF0 ∨ p = 0x54 ∨ p = 0x55 ∨ p = 0x56 ∨ p = 0x57 := by
  revert p; decide

theorem regByte_range (c : BitVec 3) : 0xE8#8 ≤ regByte c ∧ regByte c ≤ 0xEF#8 := by revert c; decide

theorem eq_regByte (h : 0xE8#8 ≤ p ∧ p ≤ 0xEF#8) : p = regByte (low3 p) := by revert p; decide

end memoryByte

/-- After a source memory byte the window is an addressing mode's bytes and at least two more. -/
theorem exists_src {w : Window} {k : Nat} (h : srcOperands w.b0 k) :
    ∃ (m : Src) (b n : Byte) (t : List Byte), windowBytes w = m.bytes ++ b :: n :: t ∧ m.bytes.length = k + 1 := by
  obtain ⟨p, x, n, y, z⟩ := w
  obtain ⟨rfl, hp⟩ | ⟨rfl, hp⟩ | ⟨rfl, rfl⟩ := h
  · obtain rfl | rfl | rfl | rfl | rfl | rfl | rfl := src_noOperand hp
    exacts [⟨.de, _, _, _, rfl, rfl⟩, ⟨.hl, _, _, _, rfl, rfl⟩, ⟨.ix, _, _, _, rfl, rfl⟩,
      ⟨.iy, _, _, _, rfl, rfl⟩, ⟨.incSP, _, _, _, rfl, rfl⟩, ⟨.hlC, _, _, _, rfl, rfl⟩,
      ⟨.pcA, _, _, _, rfl, rfl⟩]
  · obtain rfl | rfl | rfl | rfl | rfl := src_oneOperand hp
    exacts [⟨.x x, _, _, _, rfl, rfl⟩, ⟨.ixd x, _, _, _, rfl, rfl⟩, ⟨.iyd x, _, _, _, rfl, rfl⟩,
      ⟨.spd x, _, _, _, rfl, rfl⟩, ⟨.hld x, _, _, _, rfl, rfl⟩]
  · exact ⟨.vw (wordOf n x), y, z, [], by simp [windowBytes, Src.bytes], rfl⟩

/-- As `exists_src`, for a destination. -/
theorem exists_dst {w : Window} {k : Nat} (h : dstOperands w.b0 k) :
    ∃ (m : Dst) (b n : Byte) (t : List Byte), windowBytes w = m.bytes ++ b :: n :: t ∧ m.bytes.length = k + 1 := by
  obtain ⟨p, x, n, y, z⟩ := w
  obtain ⟨rfl, hp⟩ | ⟨rfl, hp⟩ | ⟨rfl, rfl⟩ := h
  · obtain rfl | rfl | rfl | rfl | rfl | rfl := dst_noOperand hp
    exacts [⟨.de, _, _, _, rfl, rfl⟩, ⟨.hl, _, _, _, rfl, rfl⟩, ⟨.ix, _, _, _, rfl, rfl⟩,
      ⟨.iy, _, _, _, rfl, rfl⟩, ⟨.spDec, _, _, _, rfl, rfl⟩, ⟨.hlC, _, _, _, rfl, rfl⟩]
  · obtain rfl | rfl | rfl | rfl | rfl := dst_oneOperand hp
    exacts [⟨.x x, _, _, _, rfl, rfl⟩, ⟨.ixd x, _, _, _, rfl, rfl⟩, ⟨.iyd x, _, _, _, rfl, rfl⟩,
      ⟨.spd x, _, _, _, rfl, rfl⟩, ⟨.hld x, _, _, _, rfl, rfl⟩]
  · exact ⟨.vw (wordOf n x), y, z, [], by simp [windowBytes, Dst.bytes], rfl⟩

/-! The undefined codes (R110, R111, R361) -/

/-- Where a memory operand of `k + 1` bytes ends, the second opcode stands. -/
theorem getD_take_of_operand {p : List Byte} {k : Nat} (hlen : p.length = k + 1) (b : Byte) (t : List Byte) :
    (p ++ b :: t).getD 0 0 = p.getD 0 0 ∧ (p ++ b :: t).getD (k + 1) 0 = b ∧
      (p ++ b :: t).take (k + 2) = p ++ [b] := by
  refine ⟨List.getD_append _ _ _ _ (by omega), ?_, ?_⟩
  · simp [← hlen]
  · simp [List.take_append, hlen]

theorem undefinedCode_of_decodeForm {w : Window} {code : List Byte} (hd : decodeForm w = .undefined code) :
    undefinedCode (windowBytes w) code := by
  cases windowShape w with
  | form f hf t hw => rw [decodeForm_of_windowBytes hw, decodeForm_encode f t hf] at hd; cases hd
  | first h => rw [decodeForm_first h] at hd; cases hd; exact .inl ⟨h, rfl⟩
  | bank h h0 h2 => rw [decodeForm_bank h h0 h2] at hd; cases hd; exact .inr (.inl ⟨h, h0, h2, rfl⟩)
  | reg c b n m t hw =>
    rw [decodeForm_of_windowBytes hw, decodeForm_reg, decodedOr_eq_undefined, decodeReg_eq_none] at hd
    obtain ⟨hu, rfl⟩ := hd
    rw [hw]
    exact .inr (.inr (.inl ⟨regByte_range c, hu, rfl⟩))
  | src m b n t hw =>
    rw [decodeForm_of_windowBytes hw, decodeForm_src, decodedOr_eq_undefined, decodeSrc_eq_none] at hd
    obtain ⟨hu, rfl⟩ := hd
    obtain ⟨k, hlen, hk⟩ := srcOperands_bytes m
    obtain ⟨h0, hb, htake⟩ := getD_take_of_operand hlen b (n :: t)
    rw [hw]
    exact .inr (.inr (.inr (.inl ⟨k, h0.symm ▸ hk, hb.symm ▸ hu, htake.symm⟩)))
  | dst m b n t hw =>
    rw [decodeForm_of_windowBytes hw, decodeForm_dst, decodedOr_eq_undefined, decodeDst_eq_none] at hd
    obtain ⟨hu, rfl⟩ := hd
    obtain ⟨k, hlen, hk⟩ := dstOperands_bytes m
    obtain ⟨h0, hb, htake⟩ := getD_take_of_operand hlen b (n :: t)
    rw [hw]
    exact .inr (.inr (.inr (.inr ⟨k, h0.symm ▸ hk, hb.symm ▸ hu, htake.symm⟩)))

theorem decodeForm_of_undefinedCode {w : Window} {code : List Byte} (h : undefinedCode (windowBytes w) code) :
    decodeForm w = .undefined code := by
  obtain ⟨h, rfl⟩ | ⟨h, h0, h2, rfl⟩ | ⟨hr, hu, rfl⟩ | ⟨k, hk, hu, rfl⟩ | ⟨k, hk, hu, rfl⟩ := h
  · exact decodeForm_first h
  · exact decodeForm_bank h h0 h2
  · have hp : w.b0 = regByte (low3 w.b0) := eq_regByte hr
    have hw : windowBytes w = regByte (low3 w.b0) :: [w.b1, w.b2, w.b3, w.b4] := by rw [← hp]; rfl
    rw [decodeForm_of_windowBytes hw, decodeForm_reg, decodedOr_eq_undefined, decodeReg_eq_none, ← hp]
    exact ⟨hu, rfl⟩
  · obtain ⟨m, b, n, t, hw, hlen⟩ := exists_src hk
    obtain ⟨-, hb, htake⟩ := getD_take_of_operand hlen b (n :: t)
    rw [hw, hb] at hu
    rw [decodeForm_of_windowBytes hw, decodeForm_src, decodedOr_eq_undefined, decodeSrc_eq_none, hw, htake]
    exact ⟨hu, rfl⟩
  · obtain ⟨m, b, n, t, hw, hlen⟩ := exists_dst hk
    obtain ⟨-, hb, htake⟩ := getD_take_of_operand hlen b (n :: t)
    rw [hw, hb] at hu
    rw [decodeForm_of_windowBytes hw, decodeForm_dst, decodedOr_eq_undefined, decodeDst_eq_none, hw, htake]
    exact ⟨hu, rfl⟩

theorem windowBytes_windowOf {l : List Byte} (h : l.length = 5) : windowBytes (windowOf l) = l := by
  match l, h with
  | [_, _, _, _, _], _ => rfl

/-! The step at an instruction boundary where nothing is taken (R101, R356, R357) -/

theorem takeEvent_of_none {s : State} (h : s.event = none) : takeEvent s = none := by
  unfold takeEvent; rw [h]

/-- A maskable request is held off while `IMF = 0`. -/
theorem takeEvent_of_heldOff {s : State} {source : Nat} (h : s.event = some (.interrupt source false))
    (himf : s.imf = false) : takeEvent s = none := by
  unfold takeEvent; rw [h]; simp [himf]

theorem step_of_decode_ok {s : State} {i : Instr} (he : takeEvent s = none)
    (hd : decode (fetchWindow s) = .ok i) : step s = exec i s := by
  unfold step; rw [he]; simp only [hd]

theorem step_of_decode_undefined {s : State} {code : List Byte} (he : takeEvent s = none)
    (hd : decode (fetchWindow s) = .undefined code) : step s = .refused (.undefinedInstruction code) := by
  unfold step; rw [he]; simp only [hd]

/-- Settles O48: the codes both ways, and the refusal of the step. -/
theorem undefinedCodesRefused : Obligations.UndefinedCodesRefused := by
  unfold Obligations.UndefinedCodesRefused
  refine ⟨fun l code hl => ?_, fun s code he hd => step_of_decode_undefined (takeEvent_of_none he) hd⟩
  have h : decodeForm (windowOf l) = .undefined code ↔ undefinedCode (windowBytes (windowOf l)) code :=
    ⟨undefinedCode_of_decodeForm, decodeForm_of_undefinedCode⟩
  rwa [decode_eq_undefined, ← windowBytes_windowOf hl]

end Sys2Proof

namespace Sys2Proof.Machine

open Sys2Proof

/-! No instruction touches what the host presents: one rule per operation that has no such rule yet. -/

section event
variable (s : State)

@[simp] theorem loadCF_event (c : Bool) : (loadCF s c).event = s.event := rfl

@[simp] theorem memBit_event (op : BitOp) (a : Word) (k : Nat) : (memBit op a k s).event = s.event := rfl

@[simp] theorem relJump_event (taken : Bool) (target : Word) (len : Nat) :
    (relJump taken target len s).event = s.event := rfl

@[simp] theorem alu8_event (op : AluOp) (r : Reg8) (y : Byte) : (alu8 op r y s).event = s.event := by
  unfold alu8 aluStore8
  split <;> simp

@[simp] theorem alu16_event (op : AluOp) (r : Reg16) (y : Word) : (alu16 op r y s).event = s.event := by
  unfold alu16 aluStore16
  split <;> simp

@[simp] theorem aluSrcN_event (op : AluOp) (m : Src) (n : Byte) : (aluSrcN op m n s).event = s.event := by
  simp only [aluSrcN]
  split <;> simp

@[simp] theorem adjustUnlisted_event (g : Reg8) : (adjustUnlisted g s).event = s.event := by
  simp [adjustUnlisted]

@[simp] theorem daa_event (g : Reg8) : (daa g s).event = s.event := by
  simp only [daa, State.advance_event]
  split <;> simp

@[simp] theorem das_event (g : Reg8) : (das g s).event = s.event := by
  simp only [das, State.advance_event]
  split <;> simp

@[simp] theorem div_event (p : DivPair) : (div p s).event = s.event := by
  simp only [div, State.advance_event]
  split <;> simp

@[simp] theorem negCS_event (gg : Reg16) : (negCS gg s).event = s.event := by
  simp only [negCS, State.advance_event, setJ_event]
  split <;> simp

/-- `CALL (+SP)` interleaves its push with the read of the target (R326); every other mode pushes first. -/
@[simp] theorem callSrc_event (m : Src) : (callSrc m s).event = s.event := by
  unfold callSrc
  split
  · simp [callIncSP]
  · simp [callPushed]

end event

/-- No form touches what the host presents. The cases are the families of the opcode table. -/
theorem run_event (f : Form) (s : State) : (run f s).event = s.event := by
  cases f with
  | ldRBS | popPSW | ldPSW | reti | retn => rfl
  | ldAR | ldRA | ldRG | ldRRGG | ldRN | ldRRMN | ldSPAdd | ldSPSub | xchRG | xchRRGG =>
    simp [run, ldAR, ldRA, ldRG, ldRRGG, ldRN, ldRRMN, ldSPAdd, ldSPSub, xchRG, xchRRGG]
  | ldAX | ldAHL | ldRSrc | ldRRSrc | xchRSrc | xchRRSrc =>
    simp [run, ldAX, ldAHL, ldRSrc, ldRRSrc, xchRSrc, xchRRSrc]
  | ldXA | ldHLA | ldXN | ldHLN | ldwXMN | ldwHLMN | ldDstR | ldDstRR | ldDstN =>
    simp [run, ldXA, ldHLA, ldXN, ldHLN, ldwXMN, ldwHLMN, ldDstR, ldDstRR, ldDstN]
  | pushPair | popPair | pushIndex | popIndex | pushPSW =>
    simp [run, pushPair, popPair, pushIndex, popIndex, pushPSW]
  | aluAN | aluGN | aluRG | aluRSrc | aluSrcN | cmpXN | aluGGMN | aluRRGG | aluRRSrc =>
    simp [run, aluAN, aluGN, aluRG, aluRSrc, cmpXN, aluGGMN, aluRRGG, aluRRSrc]
  | incR | incRR | incSrc | decR | decRR | decSrc => simp [run, incR, incRR, incSrc, decR, decRR, decSrc]
  | daa | das | mul | div | negCS => simp [run, mul]
  | shift8 | shift16 | swap | rold | rord => simp [run, shift8, shift16, swap, rold, rord]
  | bitGB | setXB | clrXB | bitSrcB | bitSrcA => simp [run, bitGB, setXB, clrXB, bitSrcB, bitSrcA]
  | ldCFGB | ldCFXB | ldCFSrcB | ldCFSrcA | xorCFGB | xorCFSrcB | setCF | clrCF | cplCF =>
    simp [run, ldCFGB, ldCFXB, ldCFSrcB, ldCFSrcA, xorCFGB, xorCFSrcB, setCF, clrCF, cplCF]
  | ldGBCF | ldSrcBCF | ldSrcACF => simp [run, ldGBCF, ldSrcBCF, ldSrcACF]
  | jrs | jrCC | jrCCLong | jrA | jpMN | jpGG | jpSrc =>
    simp [run, jrs, jrCC, jrCCLong, jrA, jpMN, jpGG, jpSrc]
  | callv | callMN | callGG | callSrc | ret | swi | nop => simp [run, callv, callMN, callGG, ret, swi, nop]

/-- Settles O47: nothing is taken at the boundary, so the step is the instruction, which leaves the event. -/
theorem stepRunsDecoded : Obligations.StepRunsDecoded := by
  unfold Obligations.StepRunsDecoded
  intro s i hevent hd
  have he : takeEvent s = none := by
    obtain hnone | ⟨source, hsource, himf⟩ := hevent
    · exact takeEvent_of_none hnone
    · exact takeEvent_of_heldOff hsource himf
  refine ⟨step_of_decode_ok he hd, fun t ht => ?_⟩
  obtain rfl : run i.form s = t := by simpa [exec_eq_run] using ht
  exact run_event i.form s

end Sys2Proof.Machine
end

