-- ==== Sys2Proof/Proofs/TransferFamily.lean ====
section
/-!
PROOFS. The family `40_transfer_exchange.md`. The rows share few operations, so one lemma for each kind of operation says
its whole effect: an 8-bit and a 16-bit register load, a byte and a word store, a push, a pop, and the four exchanges. A
short row and the row with an addressing mode are the same operation with another length; `srcBegin` changes SP only, so
what is said of the state it leaves is said of the state before. Each statement then reads the effect of its rows'
operation.
-/

namespace Sys2Proof.Machine

open Sys2Proof

/-! Bytes as the rules print them (R83, R85): a base plus a register code -/

/-- The upper five bits alone are the base. -/
theorem op53_eq_codeByte (hi : BitVec 5) (c : BitVec 3) : op53 hi c = codeByte (op53 hi 0) c := by
  revert hi c; decide

theorem regByte_eq_codeByte (c : BitVec 3) : regByte c = codeByte 0xE8 c := op53_eq_codeByte _ c

theorem encode_of_form {i : Instr} {f : Form} (h : i.form = f) : encode i = f.encode := congrArg Form.encode h

/-! Frames -/

theorem keepsMemory_of_areas {s t : State} (h : t.areas = s.areas) : keepsMemory s t :=
  have himf := congrArg Areas.imf h
  ⟨memRead8_of_eq s t (congrArg Areas.data h) himf, himf⟩

section srcBegin
variable (m : Src) (s t : State)

@[simp] theorem keepsMemory_srcBegin : keepsMemory (srcBegin m s) t ↔ keepsMemory s t := by
  simp [keepsMemory]

@[simp] theorem storesByte_srcBegin (a : Word) (v : Byte) :
    storesByte (srcBegin m s) t a v ↔ storesByte s t a v := by
  simp [storesByte]

@[simp] theorem storesWord_srcBegin (a v : Word) : storesWord (srcBegin m s) t a v ↔ storesWord s t a v := by
  simp [storesWord]

@[simp] theorem continuesAfter_srcBegin (len : Nat) :
    continuesAfter (srcBegin m s) t len ↔ continuesAfter s t len := by
  simp [continuesAfter, keepsHost]

end srcBegin

/-! Register loads -/

/-- An 8-bit register load that tests its datum (R120 to R123, R125 to R127). -/
theorem loadByte_effect (s : State) (r : Reg8) (v : Byte) (len : Nat) :
    let t := (setLoadFlags (writeR8 s r v) v).advance len
    writesR8 s t r v ∧ t.psw = { s.psw with jf := true, zf := decide (v = 0) } ∧ keepsMemory s t ∧
      continuesAfter s t len := by
  refine ⟨writesR8_of_eq s _ _ r v (writesR8_writeR8 s r v) rfl rfl rfl rfl, ?_, keepsMemory_of_areas ?_, ?_⟩ <;>
    simp [continuesAfter, keepsHost]

/-- An 8-bit register load that leaves ZF (R133). -/
theorem loadImmediate_effect (s : State) (r : Reg8) (v : Byte) (len : Nat) :
    let t := (setJ (writeR8 s r v) true).advance len
    writesR8 s t r v ∧ t.psw = { s.psw with jf := true } ∧ keepsMemory s t ∧ continuesAfter s t len := by
  refine ⟨writesR8_of_eq s _ _ r v (writesR8_writeR8 s r v) rfl rfl rfl rfl, ?_, keepsMemory_of_areas ?_, ?_⟩ <;>
    simp [continuesAfter, keepsHost]

/-- A 16-bit register load (R124, R128, R134). -/
theorem loadWord_effect (s : State) (r : Reg16) (v : Word) (len : Nat) :
    let t := (setJ (writeR16 s r v) true).advance len
    writesR16 s t r v ∧ t.psw = { s.psw with jf := true } ∧ keepsMemory s t ∧ continuesAfter s t len := by
  refine ⟨writesR16_of_eq s _ _ r v (writesR16_writeR16 s r v) rfl rfl rfl rfl, ?_, keepsMemory_of_areas ?_, ?_⟩ <;>
    simp [continuesAfter, keepsHost]

/-- Settles O1: the three rows are one load from a register. -/
theorem loadByteFromRegister : Obligations.LoadByteFromRegister := by
  unfold Obligations.LoadByteFromRegister
  rintro s i dst src bytes (⟨hf, rfl, rfl⟩ | ⟨hf, rfl, rfl⟩ | ⟨hf, rfl⟩)
  · exact ⟨by rw [encode_of_form hf, Form.encode, op53_eq_codeByte]; rfl, _, exec_of_form i _ hf s,
      loadByte_effect s _ _ _⟩
  · exact ⟨by rw [encode_of_form hf, Form.encode, op53_eq_codeByte]; rfl, _, exec_of_form i _ hf s,
      loadByte_effect s _ _ _⟩
  · exact ⟨by rw [encode_of_form hf, Form.encode, regByte_eq_codeByte, op53_eq_codeByte]; rfl, _,
      exec_of_form i _ hf s, loadByte_effect s _ _ _⟩

/-- Settles O2: the short rows are `LD r,(src)` with another length. -/
theorem loadByteFromMemory : Obligations.LoadByteFromMemory := by
  unfold Obligations.LoadByteFromMemory
  intro s i r m len hrow s1 v
  have hexec : exec i s = .next ((setLoadFlags (writeR8 s1 r v) v).advance len) := by
    obtain ⟨⟨x, hf, rfl, rfl⟩, rfl⟩ | ⟨hf, rfl, rfl, rfl⟩ | ⟨hf, rfl⟩ := hrow
    · exact exec_of_form i _ hf s
    · exact exec_of_form i _ hf s
    · rw [exec_of_form i _ hf s]
      simp [run, ldRSrc, s1, v]
  exact ⟨_, hexec, by simpa [s1] using loadByte_effect s1 r v len⟩

/-- Settles O3: three sources of one load. -/
theorem loadWord : Obligations.LoadWord := by
  unfold Obligations.LoadWord
  refine fun s i rr => ⟨fun gg hf => ?_, fun mn hf => ?_, fun m hf => ?_⟩
  · exact ⟨_, exec_of_form i _ hf s, loadWord_effect s rr (readR16 s gg) 2⟩
  · exact ⟨_, exec_of_form i _ hf s, loadWord_effect s rr mn 3⟩
  · refine ⟨_, exec_of_form i _ hf s, ?_⟩
    have heffect := loadWord_effect (srcBegin m s) rr (memRead16 s (srcAddr m (srcBegin m s))) (2 + srcExtra m)
    simpa [run, ldRRSrc] using heffect

/-- A move of SP (R152, R153) is a 16-bit load of SP and leaves both banks. -/
theorem adjustSp_effect (s : State) (v : Word) :
    let t := (setJ (s.withSp v) true).advance 2
    t.bank0 = s.bank0 ∧ t.bank1 = s.bank1 ∧ t.sp = v ∧ t.psw = { s.psw with jf := true } ∧ keepsMemory s t ∧
      continuesAfter s t 2 :=
  ⟨rfl, rfl, rfl, (loadWord_effect s .sp v 2).2⟩

theorem toNat_zext16 (v : Byte) : (zext16 v).toNat = v.toNat :=
  BitVec.toNat_setWidth_of_le (by decide)

/-- Settles O4: a zero-extended byte is its own number, so the sum and the difference are those of the integers. -/
theorem loadImmediateAndAdjustSp : Obligations.LoadImmediateAndAdjustSp := by
  unfold Obligations.LoadImmediateAndAdjustSp
  refine fun s i => ⟨fun r n hf => ?_, fun d hf => ?_, fun d hf => ?_⟩
  · exact ⟨by rw [encode_of_form hf, Form.encode, op53_eq_codeByte]; rfl, _, exec_of_form i _ hf s,
      loadImmediate_effect s r n 2⟩
  · obtain ⟨h0, h1, hsp, hrest⟩ := adjustSp_effect s (s.sp + zext16 d)
    refine ⟨_, exec_of_form i _ hf s, h0, h1, (congrArg BitVec.toNat hsp).trans ?_, hrest⟩
    rw [BitVec.toNat_add, toNat_zext16]
  · obtain ⟨h0, h1, hsp, hrest⟩ := adjustSp_effect s (s.sp - zext16 d)
    refine ⟨_, exec_of_form i _ hf s, h0, h1, (congrArg BitVec.toNat hsp).trans ?_, hrest⟩
    rw [BitVec.toNat_sub, toNat_zext16]
    have hd := d.isLt
    omega

/-! Stores -/

/-- A byte store at a destination operand (R135, R141). -/
theorem storeByte_effect (s : State) (h : s.wf = true) (m : Dst) (v : Byte) (len : Nat) :
    let t := (dstEnd m (setJ (memWrite8 s (dstAddr m s) v) true)).advance len
    storesByte s t (dstAddr m s) v ∧ keepsRegisters (dstEnd m s) t ∧ t.psw = { s.psw with jf := true } ∧
      continuesAfter s t len := by
  refine ⟨storesByte_of_eq s _ _ _ v (storesByte_memWrite8 s h _ v) ?_ ?_, ?_, ?_, ?_⟩ <;>
    simp [keepsRegisters, continuesAfter, keepsHost, dstEnd_sp]

/-- A word store at a destination operand (R136, R137). -/
theorem storeWord_effect (s : State) (h : s.wf = true) (m : Dst) (v : Word) (len : Nat) :
    let t := (dstEnd m (setJ (memWrite16 s (dstAddr m s) v) true)).advance len
    storesWord s t (dstAddr m s) v ∧ keepsRegisters (dstEnd m s) t ∧ t.psw = { s.psw with jf := true } ∧
      continuesAfter s t len := by
  refine ⟨storesWord_of_eq s _ _ _ v (storesWord_memWrite16 s h _ v) ?_ ?_, ?_, ?_, ?_⟩ <;>
    simp [keepsRegisters, continuesAfter, keepsHost, dstEnd_sp]

/-- Settles O5: the short rows are `LD (dst),r` and `LD (dst),n` with another length. -/
theorem storeByte : Obligations.StoreByte := by
  unfold Obligations.StoreByte
  intro s i m v len hwf hrow
  have hexec : exec i s = .next ((dstEnd m (setJ (memWrite8 s (dstAddr m s) v) true)).advance len) := by
    obtain ⟨x, rfl, ⟨hf, rfl, rfl⟩ | ⟨hf, rfl⟩⟩ | ⟨rfl, ⟨hf, rfl, rfl⟩ | ⟨hf, rfl⟩⟩ | ⟨r, hf, rfl, rfl⟩ | ⟨hf, rfl⟩ :=
      hrow
    all_goals exact exec_of_form i _ hf s
  exact ⟨_, hexec, storeByte_effect s hwf m v len⟩

/-- Settles O6: the short rows are `LD (dst),rr` with another length. -/
theorem storeWord : Obligations.StoreWord := by
  unfold Obligations.StoreWord
  intro s i m v len hwf hrow
  have hexec : exec i s = .next ((dstEnd m (setJ (memWrite16 s (dstAddr m s) v) true)).advance len) := by
    obtain ⟨x, rfl, hf, rfl⟩ | ⟨rfl, hf, rfl⟩ | ⟨rr, hf, rfl, rfl⟩ := hrow
    all_goals exact exec_of_form i _ hf s
  exact ⟨_, hexec, storeWord_effect s hwf m v len⟩

/-! Stack -/

/-- A push as an instruction (R144, R146). -/
theorem push_effect (s : State) (h : s.wf = true) (v : Word) (len : Nat) :
    let t := (push16 s v).advance len
    t.sp = s.sp - 2 ∧ t.bank0 = s.bank0 ∧ t.bank1 = s.bank1 ∧ t.psw = s.psw ∧
      (∀ b, memRead8 t b = if b = s.sp - 1 then loByte v else if b = s.sp then hiByte v else memRead8 s b) ∧
      continuesAfter s t len :=
  ⟨rfl, rfl, rfl, rfl, (push16_spec s h v).2.2, rfl, rfl, rfl⟩

/-- A pop as an instruction (R145, R147). -/
theorem pop_effect (s : State) (rr : Reg16) (len : Nat) :
    let t := (writeR16 (s.withSp (s.sp + 2)) rr (poppedWord s)).advance len
    writesR16 (s.withSp (s.sp + 2)) t rr (poppedWord s) ∧ t.psw = s.psw ∧ keepsMemory s t ∧
      continuesAfter s t len := by
  refine ⟨writesR16_of_eq _ _ _ rr _ (writesR16_writeR16 _ rr _) rfl rfl rfl rfl, ?_, keepsMemory_of_areas ?_, ?_⟩ <;>
    simp [continuesAfter, keepsHost]

/-- Settles O7: a pair and an index register are pushed alike. -/
theorem pushWord : Obligations.PushWord := by
  unfold Obligations.PushWord
  rintro s i v bytes hwf (⟨p, hf, rfl, rfl⟩ | ⟨hf, rfl, rfl⟩ | ⟨hf, rfl, rfl⟩)
  · exact ⟨by rw [encode_of_form hf, Form.encode, op53_eq_codeByte]; rfl, _, exec_of_form i _ hf s,
      push_effect s hwf _ _⟩
  all_goals exact ⟨encode_of_form hf, _, exec_of_form i _ hf s, push_effect s hwf _ _⟩

/-- Settles O8: a pair and an index register are popped alike. -/
theorem popWord : Obligations.PopWord := by
  unfold Obligations.PopWord
  rintro s i rr bytes (⟨p, hf, rfl, rfl⟩ | ⟨hf, rfl, rfl⟩ | ⟨hf, rfl, rfl⟩)
  · exact ⟨by rw [encode_of_form hf, Form.encode, op53_eq_codeByte]; rfl, _, exec_of_form i _ hf s,
      pop_effect s _ _⟩
  all_goals exact ⟨encode_of_form hf, _, exec_of_form i _ hf s, pop_effect s _ _⟩

/-! PSW -/

/-- `PUSH PSW` (R148): the byte is PSW with the free value as bit 0. -/
theorem pushPSW_effect (s : State) (h : s.wf = true) :
    storesByte s (pushPSW s) s.sp (pswByte s.psw (freeBit s)) ∧ keepsRegisters (s.withSp (s.sp - 1)) (pushPSW s) ∧
      (pushPSW s).psw = s.psw ∧ continuesAfter s (pushPSW s) 2 :=
  ⟨storesByte_of_eq s _ _ _ _ (storesByte_memWrite8 s h s.sp _) rfl rfl, ⟨rfl, rfl, rfl⟩, rfl, rfl, rfl, rfl⟩

/-- A write of PSW and SP by an instruction (R149, R150, R151). -/
theorem withPsw_effect (s : State) (sp : Word) (p : Psw) (len : Nat) :
    let t := ((s.withSp sp).withPsw p).advance len
    t.psw = p ∧ keepsRegisters (s.withSp sp) t ∧ keepsMemory s t ∧ continuesAfter s t len :=
  ⟨rfl, ⟨rfl, rfl, rfl⟩, keepsMemory_of_areas rfl, rfl, rfl, rfl⟩

/-- Settles O9: `LD PSW` and `LD RBS` leave SP where it is. -/
theorem pswTransfers : Obligations.PswTransfers := by
  unfold Obligations.PswTransfers
  refine fun s i => ⟨fun hwf hf => ?_, fun hf => ?_, fun n hf => ?_, fun n hf => ?_⟩
  · obtain ⟨hstore, hrest⟩ := pushPSW_effect s hwf
    exact ⟨_, _, exec_of_form i _ hf s, hstore, pswOfByte_pswByte _ _, hrest⟩
  · exact ⟨encode_of_form hf, _, exec_of_form i _ hf s, withPsw_effect s (s.sp + 1) _ 2⟩
  · exact ⟨encode_of_form hf, _, exec_of_form i _ hf s, withPsw_effect s s.sp _ 3⟩
  · exact ⟨_, exec_of_form i _ hf s, withPsw_effect s s.sp _ 2⟩

/-! Exchange -/

/-- Two registers change places, also when they are one (R154). -/
theorem readR8_exchange (s : State) (r g q : Reg8) :
    readR8 (writeR8 (writeR8 s r (readR8 s g)) g (readR8 s r)) q =
      if q = g then readR8 s r else if q = r then readR8 s g else readR8 s q := by
  rw [readR8_writeR8, readR8_writeR8]

/-- As `readR8_exchange`, where HL has two codes (R155). -/
theorem readR16_exchange (s : State) (rr gg q : Reg16) :
    readR16 (writeR16 (writeR16 s rr (readR16 s gg)) gg (readR16 s rr)) q =
      if reg16Main q = reg16Main gg then readR16 s rr
      else if reg16Main q = reg16Main rr then readR16 s gg else readR16 s q := by
  rw [readR16_writeR16, readR16_writeR16]

/-- Settles O10: the frame is that of a form that stays in its bank and stores nothing. -/
theorem exchangeRegisters : Obligations.ExchangeRegisters := by
  unfold Obligations.ExchangeRegisters
  refine fun s i => ⟨fun r g hf => ?_, fun rr gg hf => ?_⟩
  · refine ⟨by rw [encode_of_form hf, Form.encode, regByte_eq_codeByte, op53_eq_codeByte]; rfl, _,
      exec_of_form i _ hf s, readR8_exchange s r g, ?_, ?_, ?_, (run_staysInBank _ s rfl).other, ?_,
      keepsMemory_of_areas (areas_run_of_not_stores _ s rfl nofun nofun), ?_⟩ <;>
      simp [run, xchRG, continuesAfter, keepsHost]
  · refine ⟨_, exec_of_form i _ hf s, readR16_exchange s rr gg, (run_staysInBank _ s rfl).other, ?_,
      keepsMemory_of_areas (areas_run_of_not_stores _ s rfl nofun nofun), ?_⟩ <;>
      simp [run, xchRRGG, continuesAfter, keepsHost]

/-- A word store and a bank write do not see each other. -/
theorem memWrite16_withBank (s : State) (k : Bank) (a w : Word) :
    memWrite16 (s.withBank k) a w = (memWrite16 s a w).withBank k := by
  unfold State.withBank
  cases h : s.psw.rbs <;> simp only [memWrite16_psw, h] <;> rfl

/-- A word store and a 16-bit register write do not see each other. -/
theorem memWrite16_writeR16 (s : State) (r : Reg16) (v a w : Word) :
    memWrite16 (writeR16 s r v) a w = writeR16 (memWrite16 s a w) r v := by
  cases r with
  | sp => rfl
  | _ => simp [writeR16, memWrite16_withBank]

/-- A byte register and the byte at `a` change places (R156). -/
theorem exchangeByte_effect (s : State) (h : s.wf = true) (r : Reg8) (a : Word) (len : Nat) :
    let v := memRead8 s a
    let t := (setLoadFlags (writeR8 (memWrite8 s a (readR8 s r)) r v) v).advance len
    storesByte s t a (readR8 s r) ∧ writesR8 s t r v ∧
      t.psw = { s.psw with jf := true, zf := decide (v = 0) } ∧ continuesAfter s t len := by
  intro v t
  have hstore := storesByte_memWrite8 s h a (readR8 s r)
  refine ⟨storesByte_of_eq s _ t a _ hstore ?_ ?_, ?_, ?_, ?_⟩
  · simp [t]
  · simp [t]
  · refine writesR8_of_eq s _ t r v (writesR8_writeR8 s r v) ?_ ?_ ?_ ?_ <;>
      simp [t, ← memWrite8_writeR8]
  · simp [t]
  · simp [t, continuesAfter, keepsHost]

/-- A word register and the word at `a` change places (R157). -/
theorem exchangeWord_effect (s : State) (h : s.wf = true) (r : Reg16) (a : Word) (len : Nat) :
    let t := (setJ (writeR16 (memWrite16 s a (readR16 s r)) r (memRead16 s a)) true).advance len
    storesWord s t a (readR16 s r) ∧ writesR16 s t r (memRead16 s a) ∧ t.psw = { s.psw with jf := true } ∧
      continuesAfter s t len := by
  intro t
  have hstore := storesWord_memWrite16 s h a (readR16 s r)
  refine ⟨storesWord_of_eq s _ t a _ hstore ?_ ?_, ?_, ?_, ?_⟩
  · simp [t]
  · simp [t]
  · refine writesR16_of_eq s _ t r _ (writesR16_writeR16 s r (memRead16 s a)) ?_ ?_ ?_ ?_ <;>
      simp [t, ← memWrite16_writeR16]
  · simp [t]
  · simp [t, continuesAfter, keepsHost]

/-- Settles O11: the exchange happens in the state that the addressing mode leaves. -/
theorem exchangeWithMemory : Obligations.ExchangeWithMemory := by
  unfold Obligations.ExchangeWithMemory
  intro s i m hwf s1 a
  have hwf1 : s1.wf = true := wf_srcBegin m s hwf
  refine ⟨fun r hf => ⟨_, exec_of_form i _ hf s, ?_⟩, fun rr hf => ⟨_, exec_of_form i _ hf s, ?_⟩⟩
  · simpa [run, xchRSrc, s1, a] using exchangeByte_effect s1 hwf1 r a (2 + srcExtra m)
  · simpa [run, xchRRSrc, s1, a] using exchangeWord_effect s1 hwf1 rr a (2 + srcExtra m)

/-! Printed bytes -/

/-- The bytes of an instruction that is no assembler spelling decode to it. -/
theorem decode_of_encode_eq {i : Instr} {l : List Byte} (hwf : i.wf = true) (hbasic : i.basic = i)
    (hl : encode i = l) : decode (windowOf l) = .ok i := by
  obtain ⟨hdecode, -, -⟩ := decodeOfEncode i [] hwf
  rwa [hl, hbasic, List.append_nil] at hdecode

/-- Settles O59: the printed bytes are the encodings. -/
theorem printedBytesDecode : Obligations.PrintedBytesDecode := by
  unfold Obligations.PrintedBytesDecode
  refine ⟨?_, ?_, ?_, ?_, ?_, ?_, ?_, ?_, ?_, ?_, ?_⟩
  all_goals exact decode_of_encode_eq rfl rfl rfl

end Sys2Proof.Machine
end

