-- ==== Sys2Proof/Proofs/ArithmeticFamily.lean ====
section
/-!
PROOFS. The family `41_arithmetic.md`. The two-operand operations meet their integer equations once, at every width: the
result and CF are the exact sum or difference, a difference is the sum read backwards, and VF is the sign rule for a sum
that fits. One lemma for each kind of operation then says its whole effect (an operation on a register, on a byte in
memory, a step, a decimal adjustment, a division), and each statement reads the effect of its rows' operation. The
decimal instructions turn on the closed forms of their tables; packed decimal addition and subtraction use the
statements about the two instructions that they consist of.
-/

namespace Sys2Proof.Machine

open Sys2Proof

/-! Sums and differences as integers (R181, R182) -/

@[simp] theorem carryNat_true : carryNat true = 1 := rfl
@[simp] theorem carryNat_false : carryNat false = 0 := rfl

theorem carryNat_le_one (c : Bool) : carryNat c ≤ 1 := by cases c <;> decide

/-- A sum below `2 * m` is its remainder and its carry. -/
theorem mod_add_carry {m sum : Nat} (h : sum < 2 * m) :
    sum = sum % m + m * carryNat (decide (m ≤ sum)) := by
  by_cases hm : m ≤ sum
  · rw [Nat.mod_eq_sub_mod hm, Nat.mod_eq_of_lt (by omega)]
    simp [hm]
  · rw [Nat.mod_eq_of_lt (by omega)]
    simp [hm]

/-- The result and CF of an addition are its exact sum (R181). -/
theorem addN_exact {n : Nat} (x y : BitVec n) (c : Bool) :
    x.toNat + y.toNat + carryNat c =
      (addN x y c).res.toNat + 2 ^ n * carryNat (decide (2 ^ n ≤ x.toNat + y.toNat + carryNat c)) := by
  have hx := x.isLt
  have hy := y.isLt
  have hc := carryNat_le_one c
  have hsplit := mod_add_carry (m := 2 ^ n) (sum := x.toNat + y.toNat + carryNat c) (by omega)
  simpa [addN] using hsplit

/-- The result and CF of a subtraction are its exact difference: a borrow of `2 ^ n` (R182). -/
theorem subN_exact {n : Nat} (x y : BitVec n) (c : Bool) :
    x.toNat + 2 ^ n * carryNat (decide ((x.toNat : Int) - y.toNat - carryNat c < 0)) =
      (subN x y c).res.toNat + y.toNat + carryNat c := by
  have hx := x.isLt
  have hy := y.isLt
  have hc := carryNat_le_one c
  have hres : ((subN x y c).res.toNat : Int) = ((x.toNat : Int) - y.toNat - carryNat c) % (2 ^ n : Nat) := by
    simp only [subN, BitVec.toNat_ofInt]
    exact Int.toNat_of_nonneg (Int.emod_nonneg _ (by omega))
  by_cases hneg : (x.toNat : Int) - y.toNat - carryNat c < 0
  · rw [← Int.add_emod_right, Int.emod_eq_of_lt (by omega) (by omega)] at hres
    rw [decide_eq_true hneg, carryNat_true]
    omega
  · rw [Int.emod_eq_of_lt (by omega) (by omega)] at hres
    rw [decide_eq_false hneg, carryNat_false]
    omega

/-- A signed value is in its range, and is the unsigned one or that less `2 ^ n`. -/
theorem toInt_range {n : Nat} (x : BitVec n) :
    (0 ≤ x.toInt ∧ 2 * x.toInt < (2 ^ n : Nat) ∧ x.toInt = x.toNat) ∨
      (x.toInt < 0 ∧ -(2 ^ n : Nat) ≤ 2 * x.toInt ∧ x.toInt = x.toNat - (2 ^ n : Nat)) := by
  have hx := x.isLt
  rw [BitVec.toInt_eq_toNat_cond]
  split <;> omega

/-- The sign rule of VF (R181): a sum fits unless the operands agree in sign and the result does not. -/
theorem signed_sum_fits_iff {n : Nat} (hn : 0 < n) {x y res : BitVec n} {c k : Bool}
    (h : x.toNat + y.toNat + carryNat c = res.toNat + 2 ^ n * carryNat k) :
    (x.msb == y.msb && res.msb != x.msb) = false ↔ res.toInt = x.toInt + y.toInt + carryNat c := by
  have hx := toInt_range x
  have hy := toInt_range y
  have hr := toInt_range res
  have hc := carryNat_le_one c
  have heven := Nat.two_pow_pred_mul_two hn
  have hsigns : (x.msb == y.msb && res.msb != x.msb) = false ↔
      ((x.toInt < 0 ↔ y.toInt < 0) → (res.toInt < 0 ↔ x.toInt < 0)) := by
    simp [BitVec.msb_eq_toInt]
  rw [hsigns]
  cases k <;> simp only [carryNat_true, carryNat_false] at h <;> omega

/-- `ADD_n` and its flags meet the integer equations (R181). -/
theorem addSpec_addN {n : Nat} (hn : 0 < n) (op : AluOp) (x y : BitVec n) (c half : Bool) (p : Psw) :
    addSpec x y (addN x y c).res c (aluPsw op (addN x y c) half p) :=
  have hexact := addN_exact x y c
  ⟨hexact, rfl, BitVec.msb_eq_toInt, signed_sum_fits_iff hn hexact⟩

/-- `SUB_n` and its flags meet the integer equations (R182): `x` is the sum of the result, `y` and the borrow. -/
theorem subSpec_subN {n : Nat} (hn : 0 < n) (op : AluOp) (x y : BitVec n) (c half : Bool) (p : Psw) :
    subSpec x y (subN x y c).res c (aluPsw op (subN x y c) half p) := by
  have hexact := subN_exact x y c
  have hfits := signed_sum_fits_iff hn hexact.symm
  refine ⟨hexact, rfl, BitVec.msb_eq_toInt, ?_⟩
  have hsigns : (aluPsw op (subN x y c) half p).vf =
      ((subN x y c).res.msb == y.msb && x.msb != (subN x y c).res.msb) := by
    show (x.msb != y.msb && (subN x y c).res.msb != x.msb) = _
    cases x.msb <;> cases y.msb <;> cases (subN x y c).res.msb <;> rfl
  rw [hsigns, hfits]
  omega

/-- The eight operations meet their integer equations at each width, whatever HF receives (R184). -/
theorem aluSpec_aluOut {n : Nat} (hn : 0 < n) (op : AluOp) (x y : BitVec n) (half : Bool) (p : Psw) :
    aluSpec op x y (aluOut op x y p.cf).res p (aluPsw op (aluOut op x y p.cf) half p) := by
  refine ⟨aluPsw_rbs _ _ _ _, ?_⟩
  cases op with
  | addc | add => exact ⟨addSpec_addN hn _ x y _ half p, rfl⟩
  | subb | sub | cmp => exact ⟨subSpec_subN hn _ x y _ half p, rfl⟩
  | and | xor | or => exact ⟨rfl, rfl⟩

/-- HF of an 8-bit operation is the carry out of bit 3 or the borrow into it (R34, R181, R182). -/
theorem halfSpec_setAluFlags8 (op : AluOp) (x y : Byte) (s : State) :
    halfSpec op x y s.psw (setAluFlags8 op (aluOut op x y s.psw.cf) s).psw := by
  have hborrow : ∀ c : Bool, decide (((x.toNat % 16 : Nat) : Int) - (y.toNat % 16 : Nat) - carryNat c < 0) =
      decide (x.toNat % 16 < y.toNat % 16 + carryNat c) := fun c => decide_eq_decide.2 (by omega)
  cases op with
  | addc | add | and | xor | or => rfl
  | subb => exact hborrow _
  | sub | cmp => exact hborrow false

/-! Register writes from a state that differs elsewhere only -/

/-- `writesR8` sees the banks, SP and RBS of the state before. -/
theorem writesR8_of_before {s s' t : State} {r : Reg8} {v : Byte} (h : writesR8 s' t r v)
    (h0 : s'.bank0 = s.bank0) (h1 : s'.bank1 = s.bank1) (hsp : s'.sp = s.sp) (hrbs : s'.psw.rbs = s.psw.rbs) :
    writesR8 s t r v := by
  have hb : s'.bank = s.bank := by unfold State.bank; rw [h0, h1, hrbs]
  simpa [writesR8, keepsOtherBank, readR8, readR16, h0, h1, hsp, hrbs, hb] using h

/-- `writesR16` sees the banks, SP and RBS of the state before. -/
theorem writesR16_of_before {s s' t : State} {r : Reg16} {v : Word} (h : writesR16 s' t r v)
    (h0 : s'.bank0 = s.bank0) (h1 : s'.bank1 = s.bank1) (hsp : s'.sp = s.sp) (hrbs : s'.psw.rbs = s.psw.rbs) :
    writesR16 s t r v := by
  have hb : s'.bank = s.bank := by unfold State.bank; rw [h0, h1, hrbs]
  have hread : ∀ q, readR16 s' q = readR16 s q := fun q => by simp [readR16, hb, hsp]
  simpa [writesR16, keepsOtherBank, hread, h0, h1, hrbs] using h

/-! The two-operand forms (R184 to R194) -/

/-- Only `CMP` writes no operand (R184). -/
theorem aluWrites_of_ne_cmp {op : AluOp} (h : op ≠ .cmp) : aluWrites op = true := by
  cases op <;> trivial

/-- An 8-bit operation on a register (R185 to R188). -/
theorem alu8_effect (s : State) (op : AluOp) (r : Reg8) (y : Byte) (len : Nat) :
    let t := (alu8 op r y s).advance len
    let res := (aluOut op (readR8 s r) y s.psw.cf).res
    aluSpec op (readR8 s r) y res s.psw t.psw ∧ halfSpec op (readR8 s r) y s.psw t.psw ∧
      (if op = .cmp then keepsRegisters s t else writesR8 s t r res) ∧ keepsMemory s t ∧ continuesAfter s t len := by
  intro t res
  let flags := setAluFlags8 op (aluOut op (readR8 s r) y s.psw.cf) s
  have hrbs : flags.psw.rbs = s.psw.rbs := aluPsw_rbs _ _ _ _
  have hmem : keepsMemory s t := keepsMemory_of_areas (by simp [t])
  by_cases hop : op = .cmp
  · subst hop
    exact ⟨aluSpec_aluOut (by decide) _ _ _ _ _, halfSpec_setAluFlags8 _ _ _ s, ⟨rfl, rfl, rfl⟩, hmem, rfl, rfl, rfl⟩
  · have ht : t = (writeR8 flags r res).advance len := by
      simp [t, flags, res, alu8, aluStore8, aluWrites_of_ne_cmp hop]
    have hpsw : t.psw = flags.psw := by simp [ht]
    refine ⟨hpsw ▸ aluSpec_aluOut (by decide) _ _ _ _ _, hpsw ▸ halfSpec_setAluFlags8 _ _ _ s, ?_, hmem, ?_⟩
    · rw [if_neg hop, ht]
      have hwrites : writesR8 s (writeR8 flags r res) r res :=
        writesR8_of_before (writesR8_writeR8 flags r res) rfl rfl rfl hrbs
      exact writesR8_of_eq s _ _ r res hwrites rfl rfl rfl rfl
    · simp [ht, flags, continuesAfter, keepsHost]

/-- Settles O12: three sources of one operand. -/
theorem aluByteOnRegisters : Obligations.AluByteOnRegisters := by
  unfold Obligations.AluByteOnRegisters
  rintro s i op r y len (⟨hf, rfl, rfl⟩ | ⟨hf, rfl⟩ | ⟨g, hf, rfl, rfl⟩)
  all_goals exact ⟨_, _, exec_of_form i _ hf s, alu8_effect s op _ _ _⟩

/-- Settles O13: the operation happens in the state that the addressing mode leaves. -/
theorem aluByteFromMemory : Obligations.AluByteFromMemory := by
  unfold Obligations.AluByteFromMemory
  intro s i op r m hf s1 y
  refine ⟨_, (aluOut op (readR8 s1 r) y s1.psw.cf).res, exec_of_form i _ hf s, ?_⟩
  simpa [run, aluRSrc, s1, y] using alu8_effect s1 op r y (2 + srcExtra m)

/-- An 8-bit operation on the byte at `a` (R189, R190). -/
theorem aluMemory_effect (s : State) (h : s.wf = true) (op : AluOp) (a : Word) (n : Byte) (len : Nat) :
    let o := aluOut op (memRead8 s a) n s.psw.cf
    let flags := setAluFlags8 op o s
    let t := (if aluWrites op then memWrite8 flags a o.res else flags).advance len
    aluSpec op (memRead8 s a) n o.res s.psw t.psw ∧ halfSpec op (memRead8 s a) n s.psw t.psw ∧ keepsRegisters s t ∧
      (if op = .cmp then keepsMemory s t else storesByte s t a o.res) ∧ continuesAfter s t len := by
  intro o flags t
  have hspec : aluSpec op (memRead8 s a) n o.res s.psw flags.psw := aluSpec_aluOut (by decide) _ _ _ _ _
  have hhalf : halfSpec op (memRead8 s a) n s.psw flags.psw := halfSpec_setAluFlags8 _ _ _ s
  by_cases hop : op = .cmp
  · subst hop
    exact ⟨hspec, hhalf, ⟨rfl, rfl, rfl⟩, keepsMemory_of_areas rfl, rfl, rfl, rfl⟩
  · have ht : t = (memWrite8 flags a o.res).advance len := by simp [t, aluWrites_of_ne_cmp hop]
    rw [ht, if_neg hop]
    have hstore := storesByte_memWrite8 s h a o.res
    exact ⟨hspec, hhalf, ⟨rfl, rfl, rfl⟩, storesByte_of_eq s _ _ a _ hstore rfl rfl, rfl, rfl, rfl⟩

/-- Settles O14: the short `CMP (x),n` is the row with an addressing mode, with another length. -/
theorem aluByteOnMemory : Obligations.AluByteOnMemory := by
  unfold Obligations.AluByteOnMemory
  intro s i op m n len hwf hrow s1 a
  have heffect := aluMemory_effect s1 (wf_srcBegin m s hwf) op a n len
  obtain ⟨hf, rfl⟩ | ⟨x, hf, rfl, rfl, rfl⟩ := hrow
  · refine ⟨_, (aluOut op (memRead8 s1 a) n s1.psw.cf).res, exec_of_form i _ hf s, ?_⟩
    simpa [run, aluSrcN, s1, a] using heffect
  · exact ⟨_, _, exec_of_form i _ hf s, heffect⟩

/-- A 16-bit operation on a register (R192 to R194); HF is free (R34). -/
theorem alu16_effect (s : State) (op : AluOp) (r : Reg16) (y : Word) (len : Nat) :
    let t := (alu16 op r y s).advance len
    let res := (aluOut op (readR16 s r) y s.psw.cf).res
    aluSpec op (readR16 s r) y res s.psw t.psw ∧
      (if op = .cmp then keepsRegisters s t else writesR16 s t r res) ∧ keepsMemory s t ∧ continuesAfter s t len := by
  intro t res
  let flags := setAluFlags16 op (aluOut op (readR16 s r) y s.psw.cf) s
  have hspec : aluSpec op (readR16 s r) y res s.psw flags.psw := by
    obtain ⟨half, -, hpsw⟩ := setAluFlags16_psw op (aluOut op (readR16 s r) y s.psw.cf) s
    rw [hpsw]
    exact aluSpec_aluOut (by decide) _ _ _ _ _
  have hmem : keepsMemory s t := keepsMemory_of_areas (by simp [t])
  by_cases hop : op = .cmp
  · subst hop
    exact ⟨hspec, ⟨rfl, rfl, rfl⟩, hmem, rfl, rfl, rfl⟩
  · have ht : t = (writeR16 flags r res).advance len := by
      simp [t, flags, res, alu16, aluStore16, aluWrites_of_ne_cmp hop]
    have hpsw : t.psw = flags.psw := by simp [ht]
    refine ⟨hpsw ▸ hspec, ?_, hmem, ?_⟩
    · rw [if_neg hop, ht]
      have hwrites : writesR16 s (writeR16 flags r res) r res :=
        writesR16_of_before (writesR16_writeR16 flags r res) (by simp [flags]) (by simp [flags]) (by simp [flags])
          hspec.1
      exact writesR16_of_eq s _ _ r res hwrites rfl rfl rfl rfl
    · simp [ht, flags, continuesAfter, keepsHost]

/-- Settles O15: two sources of one operand. -/
theorem aluWordOnRegisters : Obligations.AluWordOnRegisters := by
  unfold Obligations.AluWordOnRegisters
  rintro s i op rr y len (⟨hf, rfl⟩ | ⟨gg, hf, rfl, rfl⟩)
  all_goals exact ⟨_, _, exec_of_form i _ hf s, alu16_effect s op _ _ _⟩

/-- Settles O16: the operation happens in the state that the addressing mode leaves. -/
theorem aluWordFromMemory : Obligations.AluWordFromMemory := by
  unfold Obligations.AluWordFromMemory
  intro s i op rr m hf s1
  let y := memRead16 s (srcAddr m s1)
  refine ⟨_, (aluOut op (readR16 s1 rr) y s1.psw.cf).res, exec_of_form i _ hf s, ?_⟩
  simpa [run, aluRRSrc, s1, y] using alu16_effect s1 op rr y (2 + srcExtra m)

/-! Comparison (R87, R199) -/

/-- The conditions of a jump on the flags `p` are the order of `x` and `y`, unsigned and signed. -/
def conditionsCompare {n : Nat} (x y : BitVec n) (p : Psw) : Prop :=
  (condHolds .z p = true ↔ x = y) ∧ (condHolds .cs p = true ↔ x.toNat < y.toNat) ∧
    (condHolds .le p = true ↔ x.toNat ≤ y.toNat) ∧ (condHolds .gt p = true ↔ y.toNat < x.toNat) ∧
    (condHolds .cc p = true ↔ y.toNat ≤ x.toNat) ∧ (condLongHolds .slt p = true ↔ x.toInt < y.toInt) ∧
    (condLongHolds .sle p = true ↔ x.toInt ≤ y.toInt) ∧ (condLongHolds .sgt p = true ↔ y.toInt < x.toInt) ∧
    (condLongHolds .sge p = true ↔ y.toInt ≤ x.toInt)

/-- The unsigned half of a comparison: ZF is equality, CF the order (R199). -/
theorem cmp_unsigned {n : Nat} {x y res : BitVec n} {p : Psw} (h : subSpec x y res false p) :
    (p.zf = true ↔ x = y) ∧ (p.cf = true ↔ x.toNat < y.toNat) := by
  obtain ⟨hexact, hzf, -, -⟩ := h
  have hxlt := x.isLt
  have hylt := y.isLt
  have hrlt := res.isLt
  rw [hzf, decide_eq_true_iff, ← BitVec.toNat_inj, ← BitVec.toNat_inj]
  cases hc : p.cf <;> simp [hc] at hexact ⊢ <;> omega

/-- The signed half of a comparison: SF is the order of a difference that fits, and the reverse of one that does not. -/
theorem cmp_signed {n : Nat} {x y res : BitVec n} {p : Psw} (h : subSpec x y res false p) :
    (p.sf ^^ p.vf) = true ↔ x.toInt < y.toInt := by
  obtain ⟨hexact, -, hsf, hvf⟩ := h
  have hx := toInt_range x
  have hy := toInt_range y
  have hr := toInt_range res
  rw [hsf]
  cases hv : p.vf with
  | false =>
    have hfits : res.toInt = x.toInt - y.toInt := by simpa using hvf.1 hv
    simp only [Bool.xor_false, decide_eq_true_iff]
    omega
  | true =>
    have hnot : res.toInt ≠ x.toInt - y.toInt := by simpa [hv] using hvf
    cases hc : p.cf <;> simp [hc] at hexact ⊢ <;> omega

theorem conditionsCompare_of_cmp {n : Nat} {x y res : BitVec n} {p p' : Psw} (h : aluSpec .cmp x y res p p') :
    conditionsCompare x y p' := by
  obtain ⟨-, hsub, -⟩ := h
  obtain ⟨hz, hc⟩ := cmp_unsigned hsub
  have hs := cmp_signed hsub
  have hx := toInt_range x
  have hy := toInt_range y
  have heq : x = y ↔ x.toNat = y.toNat := BitVec.toNat_inj.symm
  simp only [conditionsCompare, condHolds, condLongHolds, Bool.or_eq_true, Bool.not_eq_true', ← Bool.not_eq_true, hz,
    hc, hs, heq]
  refine ⟨trivial, trivial, ?_, ?_, ?_, trivial, ?_, ?_, ?_⟩ <;> omega

/-- Settles O36: the flags of `CMP` decide each condition at both widths. -/
theorem compareThenBranch : Obligations.CompareThenBranch := by
  unfold Obligations.CompareThenBranch
  refine fun s i => ⟨fun r g hf => ?_, fun rr gg hf => ?_⟩
  · exact ⟨_, exec_of_form i _ hf s, conditionsCompare_of_cmp (alu8_effect s .cmp r (readR8 s g) 2).1⟩
  · exact ⟨_, exec_of_form i _ hf s, conditionsCompare_of_cmp (alu16_effect s .cmp rr (readR16 s gg) 2).1⟩

/-! Increment and decrement (R200 to R205) -/

/-- A step up wraps exactly at the largest value. -/
theorem inc_wraps_iff {n : Nat} (x : BitVec n) : x + 1 = 0 ↔ x.toNat = 2 ^ n - 1 := by
  rw [← BitVec.toNat_allOnes, BitVec.toNat_inj, ← BitVec.neg_one_eq_allOnes]
  exact eq_neg_iff_add_eq_zero.symm

/-- A step down wraps exactly at 0. -/
theorem dec_wraps_iff {n : Nat} (x : BitVec n) : x - 1 = BitVec.allOnes n ↔ x.toNat = 0 := by
  rw [← BitVec.toNat_zero (w := n), BitVec.toNat_inj, ← BitVec.neg_one_eq_allOnes, sub_eq_iff_eq_add]
  exact Eq.congr_right (neg_add_cancel _)

/-- The result of a step up and its carry are the exact sum. -/
theorem toNat_inc {n : Nat} (x : BitVec n) :
    (x + 1).toNat = x.toNat + 1 - 2 ^ n * carryNat (decide (x + 1 = 0)) := by
  have hx := x.isLt
  have hsum : (x + 1).toNat = (x.toNat + 1) % 2 ^ n := by simp [BitVec.toNat_add]
  have hsplit := mod_add_carry (m := 2 ^ n) (sum := x.toNat + 1) (by omega)
  have hcarry : decide (2 ^ n ≤ x.toNat + 1) = decide (x + 1 = 0) :=
    decide_eq_decide.2 (by rw [inc_wraps_iff]; omega)
  rw [hcarry] at hsplit
  omega

/-- The result of a step down and its borrow are the exact difference. -/
theorem toNat_dec {n : Nat} (x : BitVec n) :
    (x - 1).toNat = x.toNat + 2 ^ n * carryNat (decide (x - 1 = BitVec.allOnes n)) - 1 := by
  have hx := x.isLt
  by_cases h : x - 1 = BitVec.allOnes n
  · have h0 := (dec_wraps_iff x).1 h
    rw [decide_eq_true h, h, BitVec.toNat_allOnes, h0, carryNat_true, Nat.zero_add, Nat.mul_one]
  · have h0 := mt (dec_wraps_iff x).2 h
    have hone : 1 % 2 ^ n = 1 := Nat.mod_eq_of_lt (by omega)
    have hmod : (2 ^ n - 1 + x.toNat) % 2 ^ n = x.toNat - 1 := by
      rw [show 2 ^ n - 1 + x.toNat = 2 ^ n + (x.toNat - 1) by omega, Nat.add_mod_left, Nat.mod_eq_of_lt (by omega)]
    rw [decide_eq_false h]
    simpa [BitVec.toNat_sub, hone] using hmod

/-- An 8-bit register step (R200, R203). -/
theorem stepByte_effect (s : State) (r : Reg8) (v : Byte) (j z : Bool) (len : Nat) :
    let t := (setJZ (writeR8 s r v) j z).advance len
    writesR8 s t r v ∧ t.psw = { s.psw with jf := j, zf := z } ∧ keepsMemory s t ∧ continuesAfter s t len := by
  refine ⟨writesR8_of_eq s _ _ r v (writesR8_writeR8 s r v) rfl rfl rfl rfl, ?_, keepsMemory_of_areas ?_, ?_⟩ <;>
    simp [continuesAfter, keepsHost]

/-- A 16-bit register step (R201, R204), and the product of `MUL` (R210). -/
theorem stepWord_effect (s : State) (r : Reg16) (v : Word) (j z : Bool) (len : Nat) :
    let t := (setJZ (writeR16 s r v) j z).advance len
    writesR16 s t r v ∧ t.psw = { s.psw with jf := j, zf := z } ∧ keepsMemory s t ∧ continuesAfter s t len := by
  refine ⟨writesR16_of_eq s _ _ r v (writesR16_writeR16 s r v) rfl rfl rfl rfl, ?_, keepsMemory_of_areas ?_, ?_⟩ <;>
    simp [continuesAfter, keepsHost]

/-- A step of the byte at `a`, in the state that an addressing mode leaves (R202, R205). -/
theorem stepMemory_effect (s : State) (h : s.wf = true) (m : Src) (a : Word) (v : Byte) (j z : Bool) (len : Nat) :
    let t := (setJZ (memWrite8 (srcBegin m s) a v) j z).advance len
    storesByte s t a v ∧ keepsRegisters (srcBegin m s) t ∧ t.psw = { s.psw with jf := j, zf := z } ∧
      continuesAfter s t len := by
  have hstore := (storesByte_srcBegin m s _ a v).1 (storesByte_memWrite8 (srcBegin m s) (wf_srcBegin m s h) a v)
  refine ⟨storesByte_of_eq s _ _ a v hstore rfl rfl, ⟨rfl, rfl, rfl⟩, ?_, ?_⟩ <;> simp [continuesAfter, keepsHost]

/-- Settles O17: JF is the wrap that the exact sum or difference carries. -/
theorem stepRegister : Obligations.StepRegister := by
  unfold Obligations.StepRegister
  refine fun s i => ⟨fun r hf => ?_, fun r hf => ?_, fun rr hf => ?_, fun rr hf => ?_⟩
  · obtain ⟨hwrites, hpsw, hrest⟩ := stepByte_effect s r (readR8 s r + 1) _ _ 1
    exact ⟨by rw [encode_of_form hf, Form.encode, op53_eq_codeByte]; rfl, _, _, exec_of_form i _ hf s, hwrites,
      toNat_inc _, decide_eq_decide.2 (inc_wraps_iff _) ▸ hpsw, hrest⟩
  · obtain ⟨hwrites, hpsw, hrest⟩ := stepByte_effect s r (readR8 s r - 1) _ _ 1
    exact ⟨by rw [encode_of_form hf, Form.encode, op53_eq_codeByte]; rfl, _, _, exec_of_form i _ hf s, hwrites,
      toNat_dec _, decide_eq_decide.2 (dec_wraps_iff _) ▸ hpsw, hrest⟩
  · obtain ⟨hwrites, hpsw, hrest⟩ := stepWord_effect s rr (readR16 s rr + 1) _ _ 1
    exact ⟨_, _, exec_of_form i _ hf s, hwrites, toNat_inc _,
      decide_eq_decide.2 (inc_wraps_iff _) ▸ hpsw, hrest⟩
  · obtain ⟨hwrites, hpsw, hrest⟩ := stepWord_effect s rr (readR16 s rr - 1) _ _ 1
    exact ⟨_, _, exec_of_form i _ hf s, hwrites, toNat_dec _,
      decide_eq_decide.2 (dec_wraps_iff _) ▸ hpsw, hrest⟩

/-- Settles O18: one byte steps at the address that the mode forms. -/
theorem stepMemory : Obligations.StepMemory := by
  unfold Obligations.StepMemory
  intro s i m hwf s1 a old
  let v := memRead8 s a
  have hread : memRead8 s1 a = v := memRead8_srcBegin m s a
  refine ⟨fun hf => ?_, fun hf => ?_⟩
  · obtain ⟨hstore, hregs, hpsw, hcont⟩ :=
      stepMemory_effect s hwf m a (v + 1) (decide (v + 1 = 0)) (decide (v + 1 = 0)) (2 + srcExtra m)
    refine ⟨_, v + 1, exec_of_form i _ hf s, ?_⟩
    rw [run, incSrc, hread]
    exact ⟨hstore, hregs, BitVec.toNat_add v 1, decide_eq_decide.2 (inc_wraps_iff v) ▸ hpsw, hcont⟩
  · obtain ⟨hstore, hregs, hpsw, hcont⟩ :=
      stepMemory_effect s hwf m a (v - 1) (decide (v - 1 = 0xFF)) (decide (v - 1 = 0)) (2 + srcExtra m)
    refine ⟨_, v - 1, exec_of_form i _ hf s, ?_⟩
    rw [run, decSrc, hread]
    have hdiff : (v - 1).toNat = (old + 255) % 256 := by rw [BitVec.toNat_sub, Nat.add_comm]; rfl
    exact ⟨hstore, hregs, hdiff, decide_eq_decide.2 (dec_wraps_iff v) ▸ hpsw, hcont⟩

/-! Multiply, divide, negate (R210 to R212) -/

theorem toNat_hiByte (v : Word) : (hiByte v).toNat = v.toNat / 256 := by
  have hv := v.isLt
  rw [hiByte, BitVec.extractLsb'_toNat, Nat.shiftRight_eq_div_pow]
  omega

/-- Settles O20: a product of two bytes fits a word. -/
theorem multiply : Obligations.Multiply := by
  unfold Obligations.Multiply
  intro s i p hf v
  let prod := BitVec.ofNat 16 ((hiByte v).toNat * (loByte v).toNat)
  have hprod : prod.toNat = (hiByte v).toNat * (loByte v).toNat := by
    have hlt := Nat.mul_lt_mul'' (hiByte v).isLt (loByte v).isLt
    exact (BitVec.toNat_ofNat _ _).trans (Nat.mod_eq_of_lt (by omega))
  have hzero : decide (hiByte prod = 0) = decide (prod.toNat < 256) := by
    refine decide_eq_decide.2 ?_
    rw [← BitVec.toNat_inj, toNat_hiByte]
    exact Nat.div_eq_zero_iff.trans (by omega)
  obtain ⟨hwrites, hpsw, hrest⟩ := stepWord_effect s (pairReg p) prod _ _ 2
  exact ⟨_, prod, exec_of_form i _ hf s, hwrites, hprod, hzero ▸ hpsw, hrest⟩

/-- The state after `DIV` writes `v` and the flags, the draw counter being `k` (R211). -/
def divided (s : State) (p : DivPair) (k : Nat) (v : Word) (z c : Bool) : State :=
  (setJZC (writeR16 (s.withDraws k) (divReg p) v) z z c).advance 2

theorem divided_effect (s : State) (p : DivPair) (k : Nat) (v : Word) (z c : Bool) :
    let t := divided s p k v z c
    writesR16 s t (divReg p) v ∧ keepsMemory s t ∧ continuesAfter s t 2 ∧
      t.psw = { s.psw with jf := z, zf := z, cf := c } := by
  have hwrites : writesR16 s (writeR16 (s.withDraws k) (divReg p) v) (divReg p) v :=
    writesR16_of_before (writesR16_writeR16 _ _ v) rfl rfl rfl rfl
  refine ⟨writesR16_of_eq s _ _ _ v hwrites rfl rfl rfl rfl, keepsMemory_of_areas ?_, ?_, ?_⟩
  · simp [divided, State.areas]
  all_goals simp [divided, continuesAfter, keepsHost]

/-- Remainder and quotient as the two bytes of a word (R211). -/
def divBytes (num dv : Nat) : Word := wordOf (BitVec.ofNat 8 (num % dv)) (BitVec.ofNat 8 (num / dv))

/-- A remainder and a quotient below 256 are their bytes. -/
theorem divBytes_exact {num dv : Nat} (hdv : dv < 256) (hfit : num < 256 * dv) :
    num = (loByte (divBytes num dv)).toNat * dv + (hiByte (divBytes num dv)).toNat ∧
      (hiByte (divBytes num dv)).toNat < dv := by
  have hrem := Nat.mod_lt num (show 0 < dv by omega)
  have hquot := (Nat.div_lt_iff_lt_mul (show 0 < dv by omega)).2 hfit
  rw [divBytes, hiByte_wordOf, loByte_wordOf, BitVec.toNat_ofNat, BitVec.toNat_ofNat, Nat.mod_eq_of_lt hquot,
    Nat.mod_eq_of_lt (hrem.trans hdv)]
  exact ⟨(Nat.div_add_mod' num dv).symm, hrem⟩

/-- The quotient fits a byte exactly when the dividend is below 256 times the divisor. -/
theorem not_quotientOverflow_iff (num dv : Nat) : ¬(dv = 0 ∨ 0x100 ≤ num / dv) ↔ num < 256 * dv := by
  rcases Nat.eq_zero_or_pos dv with rfl | hdv
  · simp
  · rw [← Nat.div_lt_iff_lt_mul hdv]; omega

theorem div_of_fits (s : State) (p : DivPair)
    (h : (readR16 s (divReg p)).toNat < 256 * (readR8 s .c).toNat) :
    let v := divBytes (readR16 s (divReg p)).toNat (readR8 s .c).toNat
    div p s = divided s p s.draws v (decide (hiByte v = 0)) false := by
  intro v
  rw [div, if_neg ((not_quotientOverflow_iff _ _).2 h), show hiByte v = _ from hiByte_wordOf _ _]
  rfl

theorem div_of_overflow (s : State) (p : DivPair)
    (h : ¬(readR16 s (divReg p)).toNat < 256 * (readR8 s .c).toNat) :
    ∃ k v z, div p s = divided s p k v z true := by
  refine ⟨s.draws + 3, wordOf (freeByte (drawn s)) (freeByte s), freeBit (drawn (drawn s)), ?_⟩
  rw [div, if_pos (not_not.1 (mt (not_quotientOverflow_iff _ _).1 h))]
  rfl

/-- Settles O21: where the quotient fits, both bytes are exact; elsewhere only the flags are fixed. -/
theorem divide : Obligations.Divide := by
  unfold Obligations.Divide
  intro s i p hf num dv
  by_cases hfit : num < 256 * dv
  · obtain ⟨hwrites, hmem, hcont, hpsw⟩ := divided_effect s p s.draws (divBytes num dv) _ false
    obtain ⟨hnum, hrem⟩ := divBytes_exact (readR8 s .c).isLt hfit
    refine ⟨_, divBytes num dv, exec_of_form i _ hf s, ?_⟩
    rw [run, div_of_fits s p hfit]
    exact ⟨hwrites, hmem, hcont, fun _ => ⟨hnum, hrem, hpsw⟩, fun hno => absurd hfit hno⟩
  · obtain ⟨k, v, z, hrun⟩ := div_of_overflow s p hfit
    obtain ⟨hwrites, hmem, hcont, hpsw⟩ := divided_effect s p k v z true
    refine ⟨_, v, exec_of_form i _ hf s, ?_⟩
    rw [run, hrun]
    exact ⟨hwrites, hmem, hcont, fun hyes => absurd hyes hfit, fun _ => by rw [hpsw]⟩

/-- Settles O22: without a carry it is a write of JF only. -/
theorem negateOnCarry : Obligations.NegateOnCarry := by
  unfold Obligations.NegateOnCarry
  intro s i gg hf
  refine ⟨by rw [encode_of_form hf, Form.encode, regByte_eq_codeByte], _, exec_of_form i _ hf s, ?_⟩
  cases hcf : s.psw.cf with
  | true =>
    have hrun : negCS gg s = (setJ (writeR16 s gg (0 - readR16 s gg)) true).advance 2 := by simp [negCS, hcf]
    obtain ⟨hwrites, hrest⟩ := loadWord_effect s gg (0 - readR16 s gg) 2
    rw [run, hrun]
    refine ⟨fun _ => ⟨_, hwrites, ?_⟩, nofun, hrest⟩
    rw [BitVec.toNat_sub]; rfl
  | false =>
    have hrun : negCS gg s = (setJ s true).advance 2 := by simp [negCS, hcf]
    rw [run, hrun]
    exact ⟨nofun, fun _ => ⟨rfl, rfl, rfl⟩, rfl, keepsMemory_of_areas rfl, rfl, rfl, rfl⟩

/-! Decimal adjust (R207, R208) -/

/-- The state after a decimal adjustment that leaves `v`, the draw counter being `k`; JF is CF. -/
def adjusted (s : State) (g : Reg8) (k : Nat) (v : Byte) (z c h : Bool) : State :=
  ((writeR8 (s.withDraws k) g v).withPsw { s.psw with jf := c, zf := z, cf := c, hf := h }).advance 2

theorem adjusted_effect (s : State) (g : Reg8) (k : Nat) (v : Byte) (z c h : Bool) :
    let t := adjusted s g k v z c h
    writesR8 s t g v ∧ t.psw = { s.psw with jf := c, zf := z, cf := c, hf := h } ∧ keepsMemory s t ∧
      continuesAfter s t 2 := by
  intro t
  have hwrites : writesR8 s (writeR8 (s.withDraws k) g v) g v :=
    writesR8_of_before (writesR8_writeR8 _ g v) rfl rfl rfl rfl
  refine ⟨writesR8_of_eq s _ t g v hwrites rfl rfl rfl ?_, rfl, keepsMemory_of_areas ?_, ?_⟩
  · simp [t, adjusted]
  · simp [t, adjusted, State.areas]
  · simp [t, adjusted, continuesAfter, keepsHost]

/-- Off the tables the byte and the flags are free values (D17). -/
theorem adjustUnlisted_eq (s : State) (g : Reg8) :
    ∃ k v z c h, (adjustUnlisted g s).advance 2 = adjusted s g k v z c h :=
  ⟨s.draws + 4, freeByte s, _, freeBit (drawn s), _, rfl⟩

/-! The tables in closed form -/

theorem rowMatches_iff (cf hf : Bool) (v : Byte) (row : AdjustRow) :
    rowMatches cf hf v row = true ↔ row.cf = cf ∧ row.hf = hf ∧ row.hiMin ≤ v.toNat / 16 ∧ v.toNat / 16 ≤ row.hiMax ∧
      row.loMin ≤ v.toNat % 16 ∧ v.toNat % 16 ≤ row.loMax := by
  simp [rowMatches, and_assoc]

/-- What the rows of the table of `DAA` add, in closed form (R207). -/
def daaSum (cf hf : Bool) (v : Byte) : Nat :=
  (if hf = true ∨ 9 < v.toNat % 16 then 0x06 else 0) + (if cf = true ∨ 0x99 < v.toNat then 0x60 else 0)

/-- What the rows of the table of `DAS` add, in closed form and before the reduction to a byte (R208). -/
def dasSum (cf hf : Bool) : Nat := (if hf = true then 0xFA else 0) + (if cf = true then 0xA0 else 0)

/-- Each row of the table of `DAA` is the closed form: the row's ranges answer both of its questions. -/
theorem daaRow_closed {cf hf : Bool} {v : Byte} {row : AdjustRow} (h : adjustRow daaRows cf hf v = some row) :
    row.add.toNat = daaSum cf hf v ∧ row.cfAfter = decide (0x60 ≤ daaSum cf hf v) := by
  obtain ⟨rfl, rfl, hhi⟩ := (rowMatches_iff _ _ _ _).1 (List.find?_some h)
  have hrow := List.mem_of_find?_eq_some h
  simp only [daaRows, List.mem_cons, List.not_mem_nil, or_false] at hrow
  by_cases hlo : 9 < v.toNat % 16 <;> by_cases hv : 0x99 < v.toNat
  all_goals
    obtain rfl | rfl | rfl | rfl | rfl | rfl | rfl | rfl | rfl := hrow <;> simp [daaSum, hlo, hv] at hhi ⊢ <;> omega

/-- Each row of the table of `DAS` is the closed form, and keeps CF. -/
theorem dasRow_closed {cf hf : Bool} {v : Byte} {row : AdjustRow} (h : adjustRow dasRows cf hf v = some row) :
    row.add.toNat = dasSum cf hf % 256 ∧ row.cfAfter = cf := by
  obtain ⟨rfl, rfl, -⟩ := (rowMatches_iff _ _ _ _).1 (List.find?_some h)
  have hrow := List.mem_of_find?_eq_some h
  simp only [dasRows, List.mem_cons, List.not_mem_nil, or_false] at hrow
  obtain rfl | rfl | rfl | rfl := hrow <;> exact ⟨rfl, rfl⟩

/-- `DAA` writes the register and the flags, and on a row of its table what the closed form says (R207). -/
theorem daa_eq_adjusted (s : State) (g : Reg8) :
    ∃ k v z c h, daa g s = adjusted s g k v z c h ∧ (adjustRow daaRows s.psw.cf s.psw.hf (readR8 s g) ≠ none →
      v.toNat = ((readR8 s g).toNat + daaSum s.psw.cf s.psw.hf (readR8 s g)) % 256 ∧
        c = decide (0x60 ≤ daaSum s.psw.cf s.psw.hf (readR8 s g)) ∧ z = decide (v = 0) ∧
        h = decide (16 ≤ (readR8 s g).toNat % 16 + daaSum s.psw.cf s.psw.hf (readR8 s g) % 16)) := by
  rw [daa]
  cases hrow : adjustRow daaRows s.psw.cf s.psw.hf (readR8 s g) with
  | none =>
    obtain ⟨k, v, z, c, h, hfree⟩ := adjustUnlisted_eq s g
    exact ⟨k, v, z, c, h, hfree, fun hlisted => absurd rfl hlisted⟩
  | some row =>
    obtain ⟨hadd, hcf⟩ := daaRow_closed hrow
    rw [← hadd]
    exact ⟨s.draws, readR8 s g + row.add, _, row.cfAfter, _, rfl, fun _ => ⟨BitVec.toNat_add _ _, hadd ▸ hcf, rfl, rfl⟩⟩

/-- `DAS` writes the register and the flags, and on a row of its table what the closed form says (R208). -/
theorem das_eq_adjusted (s : State) (g : Reg8) :
    ∃ k v z c h, das g s = adjusted s g k v z c h ∧ (adjustRow dasRows s.psw.cf s.psw.hf (readR8 s g) ≠ none →
      v.toNat = ((readR8 s g).toNat + dasSum s.psw.cf s.psw.hf) % 256 ∧ c = s.psw.cf ∧ z = decide (v = 0)) := by
  rw [das]
  cases hrow : adjustRow dasRows s.psw.cf s.psw.hf (readR8 s g) with
  | none =>
    obtain ⟨k, v, z, c, h, hfree⟩ := adjustUnlisted_eq s g
    exact ⟨k, v, z, c, h, hfree, fun hlisted => absurd rfl hlisted⟩
  | some row =>
    obtain ⟨hadd, hcf⟩ := dasRow_closed hrow
    refine ⟨s.draws + 1, readR8 s g + row.add, _, row.cfAfter, freeBit s, rfl, fun _ => ⟨?_, hcf, rfl⟩⟩
    rw [BitVec.toNat_add, hadd, Nat.add_mod_mod]

/-- Settles O19: the rows are the closed form, and what is on no row is free. -/
theorem decimalAdjust : Obligations.DecimalAdjust := by
  unfold Obligations.DecimalAdjust
  intro s i g v
  refine ⟨fun hf => ?_, fun hf => ?_⟩
  · obtain ⟨k, v', z, c, h, hrun, hclosed⟩ := daa_eq_adjusted s g
    obtain ⟨hwrites, hpsw, hmem, hcont⟩ := adjusted_effect s g k v' z c h
    rw [exec_of_form i _ hf s, run, hrun]
    exact ⟨_, v', rfl, hwrites, hpsw, hmem, hcont, hclosed⟩
  · obtain ⟨k, v', z, c, h, hrun, hclosed⟩ := das_eq_adjusted s g
    obtain ⟨hwrites, hpsw, hmem, hcont⟩ := adjusted_effect s g k v' z c h
    rw [exec_of_form i _ hf s, run, hrun]
    exact ⟨_, v', rfl, hwrites, hpsw, hmem, hcont, hclosed⟩

/-! Packed decimal sums and differences -/

theorem adjustRow_ne_none_iff (rows : List AdjustRow) (cf hf : Bool) (v : Byte) :
    adjustRow rows cf hf v ≠ none ↔ ∃ row ∈ rows, rowMatches cf hf v row = true := by
  rw [adjustRow, ← Option.isSome_iff_ne_none, List.find?_isSome]

theorem readR8_of_writesR8 {s t : State} {r : Reg8} {v : Byte} (h : writesR8 s t r v) : readR8 t r = v :=
  (h.1 r).trans (if_pos rfl)

section sum
variable {x y res : Byte} {c cf hf : Bool} (hx : isBcd x) (hy : isBcd y)
  (hsum : x.toNat + y.toNat + carryNat c = res.toNat + 256 * carryNat cf)
include hx hy hsum

/-- `DAA` adds 0x60 exactly when the decimal sum carries. -/
theorem daa_highDigit_carry_iff :
    (cf = true ∨ 0x99 < res.toNat) ↔ 100 ≤ bcdValue x + bcdValue y + carryNat c := by
  obtain ⟨hxh, hxl⟩ := hx
  obtain ⟨hyh, hyl⟩ := hy
  have hc := carryNat_le_one c
  unfold bcdValue
  cases cf <;> simp at hsum ⊢ <;> omega

variable (hhf : hf = decide (16 ≤ x.toNat % 16 + y.toNat % 16 + carryNat c))
include hhf

/-- The binary sum of two packed decimal bytes is on a row of the table of `DAA`. -/
theorem daaRows_list_sum : adjustRow daaRows cf hf res ≠ none := by
  obtain ⟨hxh, hxl⟩ := hx
  obtain ⟨hyh, hyl⟩ := hy
  have hc := carryNat_le_one c
  rw [adjustRow_ne_none_iff]
  cases hf <;> cases cf <;> simp [daaRows, rowMatches_iff] at hsum hhf ⊢ <;> omega

/-- `DAA` adds 6 exactly when the lower digits carry. -/
theorem daa_lowDigit_carry_iff :
    (hf = true ∨ 9 < res.toNat % 16) ↔ 10 ≤ x.toNat % 16 + y.toNat % 16 + carryNat c := by
  obtain ⟨-, hxl⟩ := hx
  obtain ⟨-, hyl⟩ := hy
  have hc := carryNat_le_one c
  rw [hhf, decide_eq_true_iff]
  omega

/-- The closed form of `DAA` turns the binary sum into the decimal one: each digit that carries gains 6. -/
theorem bcd_daaSum {v : Byte} (hv : v.toNat = (res.toNat + daaSum cf hf res) % 256) :
    isBcd v ∧ bcdValue v + 100 * carryNat (decide (0x60 ≤ daaSum cf hf res)) =
      bcdValue x + bcdValue y + carryNat c := by
  have hlow := daa_lowDigit_carry_iff hx hy hsum hhf
  have hhigh := daa_highDigit_carry_iff hx hy hsum
  obtain ⟨hxh, hxl⟩ := hx
  obtain ⟨hyh, hyl⟩ := hy
  have hc := carryNat_le_one c
  have hcf := carryNat_le_one cf
  by_cases hl : 10 ≤ x.toNat % 16 + y.toNat % 16 + carryNat c <;>
    by_cases hh : 100 ≤ bcdValue x + bcdValue y + carryNat c <;>
    simp [daaSum, hlow, hhigh, hl, hh] at hv ⊢ <;> unfold isBcd bcdValue at * <;> omega

end sum

section difference
variable {x y res : Byte} {c cf hf : Bool} (hx : isBcd x) (hy : isBcd y)
  (hdiff : x.toNat + 256 * carryNat cf = res.toNat + y.toNat + carryNat c)
  (hhf : hf = decide (x.toNat % 16 < y.toNat % 16 + carryNat c))
include hx hy hdiff hhf

/-- The binary difference of two packed decimal bytes is on a row of the table of `DAS`. -/
theorem dasRows_list_difference : adjustRow dasRows cf hf res ≠ none := by
  obtain ⟨hxh, hxl⟩ := hx
  obtain ⟨hyh, hyl⟩ := hy
  have hc := carryNat_le_one c
  rw [adjustRow_ne_none_iff]
  cases hf <;> cases cf <;> simp [dasRows, rowMatches_iff] at hdiff hhf ⊢ <;> omega

/-- The closed form of `DAS` turns the binary difference into the decimal one; the borrows are the same. -/
theorem bcd_dasSum {v : Byte} (hv : v.toNat = (res.toNat + dasSum cf hf) % 256) :
    isBcd v ∧ bcdValue x + 100 * carryNat cf = bcdValue v + bcdValue y + carryNat c := by
  obtain ⟨hxh, hxl⟩ := hx
  obtain ⟨hyh, hyl⟩ := hy
  have hc := carryNat_le_one c
  unfold isBcd bcdValue
  cases hf <;> cases cf <;> simp [dasSum] at hdiff hhf hv ⊢ <;> omega

end difference

/-- Settles O23: `ADDC` leaves the binary sum on a row of the table, and `DAA` makes it decimal. -/
theorem decimalAddition : Obligations.DecimalAddition := by
  unfold Obligations.DecimalAddition
  intro s i j r g hi hj hx hy
  obtain ⟨t, res, hadd, ⟨-, ⟨hsum, -⟩, -⟩, hhf, hwrites, -⟩ :=
    aluByteOnRegisters s i .addc r (readR8 s g) 2 (.inr (.inr ⟨g, hi, rfl, rfl⟩))
  obtain rfl : readR8 t r = res := readR8_of_writesR8 hwrites
  obtain ⟨u, v, hdaa, hwrites', -, -, -, hclosed⟩ := (decimalAdjust t j r).1 hj
  obtain rfl : readR8 u r = v := readR8_of_writesR8 hwrites'
  obtain ⟨hv, hcf, -⟩ := hclosed (daaRows_list_sum hx hy hsum hhf)
  exact ⟨t, u, hadd, hdaa, by rw [hcf]; exact bcd_daaSum hx hy hsum hhf hv⟩

/-- Settles O24: `SUBB` leaves the binary difference on a row of the table, and `DAS` makes it decimal. -/
theorem decimalSubtraction : Obligations.DecimalSubtraction := by
  unfold Obligations.DecimalSubtraction
  intro s i j r g hi hj hx hy
  obtain ⟨t, res, hsub, ⟨-, ⟨hdiff, -⟩, -⟩, hhf, hwrites, -⟩ :=
    aluByteOnRegisters s i .subb r (readR8 s g) 2 (.inr (.inr ⟨g, hi, rfl, rfl⟩))
  obtain rfl : readR8 t r = res := readR8_of_writesR8 hwrites
  obtain ⟨u, v, hdas, hwrites', -, -, -, hclosed⟩ := (decimalAdjust t j r).2 hj
  obtain rfl : readR8 u r = v := readR8_of_writesR8 hwrites'
  obtain ⟨hv, hcf, -⟩ := hclosed (dasRows_list_difference hx hy hdiff hhf)
  exact ⟨t, u, hsub, hdas, by rw [hcf]; exact bcd_dasSum hx hy hdiff hhf hv⟩

end Sys2Proof.Machine
end

