-- ==== Sys2Proof/Proofs/ShiftFamily.lean ====
section
/-!
PROOFS. The family `42_shift_rotate_nibble.md`. A shift by one bit doubles or halves, once at every width, and a bit shifted
in adds its weight; the overflow of the signed double is that of a sum. A nibble instruction puts a byte together from two
digits. One lemma for each kind of operation then says its whole effect. `ROLD` and `RORD` at one address are two writes of
A and two stores of one byte, the later ones with the values from before.
-/

namespace Sys2Proof.Machine

open Sys2Proof

/-! One-bit shifts as arithmetic, at every width (R230) -/

/-- A shift to the left doubles; the bit that leaves is the carry. -/
theorem toNat_shiftLeft_one {n : Nat} (hn : 0 < n) (x : BitVec n) :
    2 * x.toNat = (x <<< 1).toNat + 2 ^ n * carryNat x.msb := by
  have hx := x.isLt
  have heven := Nat.two_pow_pred_mul_two hn
  have hres : (x <<< 1).toNat = 2 * x.toNat % 2 ^ n := by
    rw [BitVec.toNat_shiftLeft, Nat.shiftLeft_eq, Nat.pow_one, Nat.mul_comm]
  have hmsb : x.msb = decide (2 ^ n ≤ 2 * x.toNat) := by
    rw [BitVec.msb_eq_decide]
    exact decide_eq_decide.2 (by omega)
  rw [hres, hmsb]
  exact mod_add_carry (by omega)

/-- The lowest bit is the remainder by 2. -/
theorem carryNat_getLsbD_zero {n : Nat} (x : BitVec n) : carryNat (x.getLsbD 0) = x.toNat % 2 := by
  rw [BitVec.getLsbD, Nat.testBit_zero]
  obtain h | h := Nat.mod_two_eq_zero_or_one x.toNat <;> simp [h]

/-- A logical shift to the right halves; the bit that leaves is the remainder. -/
theorem toNat_ushiftRight_one {n : Nat} (x : BitVec n) :
    x.toNat = 2 * (x >>> 1).toNat + carryNat (x.getLsbD 0) := by
  rw [carryNat_getLsbD_zero, BitVec.toNat_ushiftRight, Nat.shiftRight_eq_div_pow]
  omega

/-- An arithmetic shift to the right halves towards minus infinity; the bit that leaves is the remainder. -/
theorem toInt_sshiftRight_one {n : Nat} (hn : 0 < n) (x : BitVec n) :
    x.toInt = 2 * (x.sshiftRight 1).toInt + carryNat (x.getLsbD 0) := by
  have hx := toInt_range x
  have heven := Nat.two_pow_pred_mul_two hn
  rw [carryNat_getLsbD_zero, BitVec.toInt_sshiftRight, Int.shiftRight_eq_div_pow]
  omega

theorem setBit_bitOf {v : Byte} {k : Nat} (hk : k < 8) : setBit v k (bitOf v k) = v :=
  BitVec.eq_of_getLsbD_eq fun j _ =>
    (bitOf_setBit v k j _ hk).trans (ite_eq_right_iff.2 fun hj => hj ▸ rfl)

/-- Bit `k` carries its weight into a byte where it is clear. -/
theorem toNat_setBit_of_clear {v : Byte} {k : Nat} (hk : k < 8) (h : bitOf v k = false) (c : Bool) :
    (setBit v k c).toNat = v.toNat + 2 ^ k * carryNat c := by
  cases c with
  | false => rw [← h, setBit_bitOf hk, h, carryNat_false, Nat.mul_zero, Nat.add_zero]
  | true =>
    have hclear : v &&& BitVec.twoPow 8 k = 0 := by
      rw [BitVec.and_twoPow, show v.getLsbD k = false from h]
      rfl
    rw [setBit, if_pos rfl, ← BitVec.twoPow_eq, ← BitVec.add_eq_or_of_and_eq_zero _ _ hclear,
      BitVec.toNat_add_of_and_eq_zero hclear, BitVec.toNat_twoPow_of_lt hk, carryNat_true, Nat.mul_one]

/-! Shifts and rotates of a byte (R231 to R234) -/

/-- The result and the bit that leaves are the nine bits of the register and CF, moved by one. -/
theorem shift8_exact (op : Shift8) (v : Byte) (c : Bool) :
    match op with
    | .shlc => 2 * v.toNat = (shift8Result op v c).toNat + 256 * carryNat (shift8Out op v)
    | .shrc => v.toNat = 2 * (shift8Result op v c).toNat + carryNat (shift8Out op v)
    | .rolc => 2 * v.toNat + carryNat c = (shift8Result op v c).toNat + 256 * carryNat (shift8Out op v)
    | .rorc => v.toNat + 256 * carryNat c = 2 * (shift8Result op v c).toNat + carryNat (shift8Out op v) := by
  have hleft : 2 * v.toNat = (v <<< 1).toNat + 256 * carryNat (bitOf v 7) := toNat_shiftLeft_one (by decide) v
  have hright : v.toNat = 2 * (v >>> 1).toNat + carryNat (bitOf v 0) := toNat_ushiftRight_one v
  cases op with
  | shlc => exact hleft
  | shrc => exact hright
  | rolc =>
    have hin : (setBit (v <<< 1) 0 c).toNat = (v <<< 1).toNat + 2 ^ 0 * carryNat c :=
      toNat_setBit_of_clear (by decide) (by simp [bitOf]) c
    simp only [shift8Result, shift8Out, hin]
    omega
  | rorc =>
    have hin : (setBit (v >>> 1) 7 c).toNat = (v >>> 1).toNat + 2 ^ 7 * carryNat c :=
      toNat_setBit_of_clear (by decide) (by simp [bitOf]) c
    simp only [shift8Result, shift8Out, hin]
    omega

/-- An 8-bit shift or rotate as a register write and three flags. -/
theorem shift8_effect (s : State) (op : Shift8) (g : Reg8) :
    let t := shift8 op g s
    let v := readR8 s g
    let res := shift8Result op v s.psw.cf
    writesR8 s t g res ∧
      t.psw = { s.psw with jf := shift8Out op v, zf := decide (res = 0), cf := shift8Out op v } ∧
      keepsMemory s t ∧ continuesAfter s t 2 := by
  intro t v res
  refine ⟨writesR8_of_eq s _ t g res (writesR8_writeR8 s g res) rfl rfl rfl rfl, ?_, keepsMemory_of_areas ?_, ?_⟩
  · simp [t, shift8, res, v]
  · simp [t, shift8]
  · simp [t, shift8, continuesAfter, keepsHost]

/-- Settles O25: nine bits move by one, so doubling and halving are exact with CF as the ninth bit. -/
theorem shiftRotateByte : Obligations.ShiftRotateByte := by
  unfold Obligations.ShiftRotateByte
  intro s i op g hf v
  obtain ⟨hwrites, hpsw, hmem, hcont⟩ := shift8_effect s op g
  have hexact := shift8_exact op (readR8 s g) s.psw.cf
  refine ⟨by rw [encode_of_form hf, Form.encode, regByte_eq_codeByte]; cases op <;> rfl, _, _,
    exec_of_form i _ hf s, hwrites, ?_, ?_, hmem, hcont⟩
  · rw [run, hpsw]
  · rw [run, hpsw]
    cases op <;> exact hexact

/-! Arithmetic shifts of a word (R235, R236) -/

/-- VF of `SHLCA` is clear exactly when the double fits: it is the sum of the register and itself. -/
theorem shiftLeft_fits_iff {n : Nat} (hn : 0 < n) (x : BitVec n) :
    ((x <<< 1).msb != x.msb) = false ↔ (x <<< 1).toInt = 2 * x.toInt := by
  have hdouble : x.toNat + x.toNat + carryNat false = (x <<< 1).toNat + 2 ^ n * carryNat x.msb := by
    rw [← toNat_shiftLeft_one hn, carryNat_false]
    omega
  simpa [two_mul] using signed_sum_fits_iff hn hdouble

/-- The result, the bit that leaves and VF are the signed double or half. -/
theorem shift16_exact (op : Shift16) (v : Word) :
    match op with
    | .shlca => 2 * v.toNat = (shift16Result op v).toNat + 65536 * carryNat (shift16Out op v) ∧
        (shift16Overflow op v = false ↔ (shift16Result op v).toInt = 2 * v.toInt)
    | .shrca => v.toInt = 2 * (shift16Result op v).toInt + carryNat (shift16Out op v) ∧
        shift16Overflow op v = false := by
  cases op with
  | shlca => exact ⟨toNat_shiftLeft_one (by decide) v, shiftLeft_fits_iff (by decide) v⟩
  | shrca => exact ⟨toInt_sshiftRight_one (by decide) v, rfl⟩

/-- A 16-bit arithmetic shift as a register write and five flags. -/
theorem shift16_effect (s : State) (op : Shift16) (gg : Reg16) :
    let t := shift16 op gg s
    let v := readR16 s gg
    let res := shift16Result op v
    writesR16 s t gg res ∧
      t.psw = { s.psw with jf := shift16Out op v, zf := decide (res = 0), cf := shift16Out op v,
                           sf := decide (res.toInt < 0), vf := shift16Overflow op v } ∧
      keepsMemory s t ∧ continuesAfter s t 2 := by
  intro t v res
  refine ⟨writesR16_of_eq s _ t gg res (writesR16_writeR16 s gg res) rfl rfl rfl ?_, ?_, keepsMemory_of_areas ?_, ?_⟩
  · simp [t, shift16]
  · simp [t, shift16, res, v, BitVec.msb_eq_toInt]
  · simp [t, shift16]
  · simp [t, shift16, continuesAfter, keepsHost]

/-- Settles O26: VF of the doubling is that of a sum, and the halving always fits. -/
theorem shiftWord : Obligations.ShiftWord := by
  unfold Obligations.ShiftWord
  intro s i op gg hf v
  obtain ⟨hwrites, hpsw, hmem, hcont⟩ := shift16_effect s op gg
  have hexact := shift16_exact op v
  refine ⟨_, _, exec_of_form i _ hf s, hwrites, ?_, ?_, hmem, hcont⟩
  · rw [run, hpsw]
  · rw [run, hpsw]
    cases op <;> exact hexact

/-! Nibbles (R237 to R239) -/

theorem toNat_shiftLeft_four (v : Byte) : (v <<< 4).toNat = 16 * (v.toNat % 16) := by
  rw [BitVec.toNat_shiftLeft, Nat.shiftLeft_eq]
  omega

theorem toNat_ushiftRight_four (v : Byte) : (v >>> 4).toNat = v.toNat / 16 := by
  rw [BitVec.toNat_ushiftRight, Nat.shiftRight_eq_div_pow]

theorem toNat_and_highNibble (v : Byte) : (v &&& 0xF0).toNat = 16 * (v.toNat / 16) := by
  revert v; decide

theorem toNat_and_lowNibble (v : Byte) : (v &&& 0x0F).toNat = v.toNat % 16 :=
  (BitVec.toNat_and v 0x0F).trans (Nat.and_two_pow_sub_one_eq_mod v.toNat 4)

/-- A byte put together from its two digits. -/
theorem toNat_or_nibbles {hi lo : Byte} {h l : Nat} (hhi : hi.toNat = 16 * h) (hlo : lo.toNat = l) (hl : l < 16) :
    (hi ||| lo).toNat = 16 * h + l := by
  rw [BitVec.toNat_or, hhi, hlo]
  exact (Nat.two_pow_add_eq_or_of_lt (i := 4) hl h).symm

theorem highNibble_lt (v : Byte) : v.toNat / 16 < 16 := Nat.div_lt_of_lt_mul v.isLt

theorem lowNibble_lt (v : Byte) : v.toNat % 16 < 16 := Nat.mod_lt _ (by decide)

theorem toNat_swapNibbles (v : Byte) : (swapNibbles v).toNat = 16 * (v.toNat % 16) + v.toNat / 16 :=
  toNat_or_nibbles (toNat_shiftLeft_four v) (toNat_ushiftRight_four v) (highNibble_lt v)

/-- The digits after `ROLD` (R238). -/
theorem rold_digits (acc v : Byte) :
    ((acc &&& 0xF0) ||| (v >>> 4)).toNat = 16 * (acc.toNat / 16) + v.toNat / 16 ∧
      ((v <<< 4) ||| (acc &&& 0x0F)).toNat = 16 * (v.toNat % 16) + acc.toNat % 16 :=
  ⟨toNat_or_nibbles (toNat_and_highNibble acc) (toNat_ushiftRight_four v) (highNibble_lt v),
    toNat_or_nibbles (toNat_shiftLeft_four v) (toNat_and_lowNibble acc) (lowNibble_lt acc)⟩

/-- The digits after `RORD` (R239). -/
theorem rord_digits (acc v : Byte) :
    ((acc &&& 0xF0) ||| (v &&& 0x0F)).toNat = 16 * (acc.toNat / 16) + v.toNat % 16 ∧
      (((acc &&& 0x0F) <<< 4) ||| (v >>> 4)).toNat = 16 * (acc.toNat % 16) + v.toNat / 16 := by
  have hacc : ((acc &&& 0x0F) <<< 4).toNat = 16 * (acc.toNat % 16) := by
    rw [toNat_shiftLeft_four, toNat_and_lowNibble, Nat.mod_mod]
  exact ⟨toNat_or_nibbles (toNat_and_highNibble acc) (toNat_and_lowNibble v) (lowNibble_lt v),
    toNat_or_nibbles hacc (toNat_ushiftRight_four v) (highNibble_lt v)⟩

/-- A write of A and of the byte at `a`, in the state that an addressing mode leaves. -/
theorem rotateDigit_effect (s : State) (h : s.wf = true) (m : Src) (a : Word) (na nm : Byte) (len : Nat) :
    let s1 := srcBegin m s
    let t := (setJ (memWrite8 (writeR8 s1 .a na) a nm) true).advance len
    writesR8 s1 t .a na ∧ storesByte s t a nm ∧ t.psw = { s.psw with jf := true } ∧ continuesAfter s t len := by
  intro s1 t
  have hstore : storesByte s (memWrite8 s1 a nm) a nm :=
    (storesByte_srcBegin m s _ a nm).1 (storesByte_memWrite8 s1 (wf_srcBegin m s h) a nm)
  refine ⟨writesR8_of_eq s1 _ t .a na (writesR8_writeR8 s1 .a na) rfl rfl rfl rfl,
    storesByte_of_eq s _ t a nm hstore ?_ ?_, ?_, ?_⟩
  · simp [t, memWrite8_writeR8]
  · simp [t]
  · simp [t, s1]
  · simp [t, s1, continuesAfter, keepsHost]

/-- `ROLD A,(src)` (R238). -/
theorem rold_effect (s : State) (h : s.wf = true) (m : Src) :
    let s1 := srcBegin m s
    let a := srcAddr m s1
    let acc := readR8 s .a
    let v := memRead8 s a
    writesR8 s1 (rold m s) .a ((acc &&& 0xF0) ||| (v >>> 4)) ∧
      storesByte s (rold m s) a ((v <<< 4) ||| (acc &&& 0x0F)) ∧ (rold m s).psw = { s.psw with jf := true } ∧
      continuesAfter s (rold m s) (2 + srcExtra m) := by
  intro s1 a acc v
  rw [rold, memRead8_srcBegin, readR8_srcBegin]
  exact rotateDigit_effect s h m a _ _ _

/-- `RORD A,(src)` (R239). -/
theorem rord_effect (s : State) (h : s.wf = true) (m : Src) :
    let s1 := srcBegin m s
    let a := srcAddr m s1
    let acc := readR8 s .a
    let v := memRead8 s a
    writesR8 s1 (rord m s) .a ((acc &&& 0xF0) ||| (v &&& 0x0F)) ∧
      storesByte s (rord m s) a (((acc &&& 0x0F) <<< 4) ||| (v >>> 4)) ∧
      (rord m s).psw = { s.psw with jf := true } ∧ continuesAfter s (rord m s) (2 + srcExtra m) := by
  intro s1 a acc v
  rw [rord, memRead8_srcBegin, readR8_srcBegin]
  exact rotateDigit_effect s h m a _ _ _

/-- Settles O27: the digits change places, and all but A, JF and the byte at the address stay. -/
theorem nibbleInstructions : Obligations.NibbleInstructions := by
  unfold Obligations.NibbleInstructions
  refine fun s i => ⟨fun g hf => ?_, ?_⟩
  · obtain ⟨hwrites, hrest⟩ := loadImmediate_effect s g (swapNibbles (readR8 s g)) 2
    exact ⟨by rw [encode_of_form hf, Form.encode, regByte_eq_codeByte], _, _, exec_of_form i _ hf s, hwrites,
      toNat_swapNibbles _, hrest⟩
  intro m hwf s1 a v acc
  refine ⟨fun hf => ?_, fun hf => ?_⟩
  · obtain ⟨hwrites, hstores, hrest⟩ := rold_effect s hwf m
    obtain ⟨hna, hnm⟩ := rold_digits (readR8 s .a) (memRead8 s a)
    exact ⟨_, _, _, exec_of_form i _ hf s, hwrites, hstores, hna, hnm, hrest⟩
  · obtain ⟨hwrites, hstores, hrest⟩ := rord_effect s hwf m
    obtain ⟨hna, hnm⟩ := rord_digits (readR8 s .a) (memRead8 s a)
    exact ⟨_, _, _, exec_of_form i _ hf s, hwrites, hstores, hna, hnm, hrest⟩

/-! Two instructions at one address (R240) -/

/-- Two writes of one register are the later one. -/
theorem writesR8_trans {s t u : State} {r : Reg8} {v w : Byte} (h : writesR8 s t r v) (k : writesR8 t u r w)
    (hrbs : t.psw.rbs = s.psw.rbs) : writesR8 s u r w := by
  obtain ⟨hread, hix, hiy, hsp, h0, h1⟩ := h
  obtain ⟨kread, kix, kiy, ksp, k0, k1⟩ := k
  rw [hrbs] at k0 k1
  refine ⟨fun q => ?_, kix.trans hix, kiy.trans hiy, ksp.trans hsp, fun hb => (k0 hb).trans (h0 hb),
    fun hb => (k1 hb).trans (h1 hb)⟩
  rw [kread, hread]
  split <;> rfl

/-- Two stores at one address are the later one. -/
theorem storesByte_trans {s t u : State} {a : Word} {v w : Byte} (h : storesByte s t a v)
    (k : storesByte t u a w) : storesByte s u a w := by
  obtain ⟨hread, himf⟩ := h
  obtain ⟨kread, kimf⟩ := k
  refine ⟨fun b => ?_, ?_⟩
  · rw [kread, hread]
    split <;> rfl
  · rw [kimf, himf]
    split <;> rfl

/-- A bank is what its registers read. -/
theorem Bank.ext_of_reads {j k : Bank} (h : ∀ q, bankGet8 j q = bankGet8 k q) (hix : j.ix = k.ix)
    (hiy : j.iy = k.iy) : j = k := by
  cases j
  cases k
  rw [Bank.mk.injEq]
  exact ⟨h .a, h .w, h .c, h .b, h .e, h .d, h .l, h .h, hix, hiy⟩

/-- A register written with what it held leaves all registers. -/
theorem keepsRegisters_of_writesR8 {s t : State} {r : Reg8} (h : writesR8 s t r (readR8 s r))
    (hrbs : t.psw.rbs = s.psw.rbs) : keepsRegisters s t := by
  obtain ⟨hread, hix, hiy, hsp, h0, h1⟩ := h
  have hreads : ∀ q, readR8 t q = readR8 s q := fun q =>
    (hread q).trans (ite_eq_right_iff.2 fun hq => hq ▸ rfl)
  have hbank : t.bank = s.bank := Bank.ext_of_reads hreads hix hiy
  unfold State.bank at hbank
  rw [hrbs] at hbank
  cases hb : s.psw.rbs with
  | true => exact ⟨h0 hb, by simpa [hb] using hbank, hsp⟩
  | false => exact ⟨by simpa [hb] using hbank, h1 hb, hsp⟩

/-- A byte stored where it was read leaves the memory, IMF included. -/
theorem keepsMemory_of_storesByte {s t : State} {a : Word} (h : storesByte s t a (memRead8 s a)) :
    keepsMemory s t := by
  obtain ⟨hread, himf⟩ := h
  refine ⟨fun b => (hread b).trans (ite_eq_right_iff.2 fun hb => hb ▸ rfl),
    himf.trans (ite_eq_right_iff.2 fun ha => ?_)⟩
  rw [ha, memRead8_imfAddr, bitOf_setBit _ _ _ _ (by decide), if_pos rfl]

/-- A write of A moves no address but that of `(PC+A)`. -/
theorem srcAddr_of_writesA {s t : State} {v : Byte} {m : Src} (hm : m ≠ .pcA) (h : writesR8 s t .a v) :
    srcAddr m t = srcAddr m s := by
  obtain ⟨hread, hix, hiy, hsp, -⟩ := h
  have hother : ∀ q, q ≠ .a → readR8 t q = readR8 s q := fun q hq => (hread q).trans (if_neg hq)
  have hde : readR16 t .de = readR16 s .de := congrArg₂ wordOf (hother .d nofun) (hother .e nofun)
  have hhl : readR16 t .hl = readR16 s .hl := congrArg₂ wordOf (hother .h nofun) (hother .l nofun)
  have hc : readR8 t .c = readR8 s .c := hother .c nofun
  cases m with
  | pcA => exact absurd rfl hm
  | _ => simp only [srcAddr, hix, hiy, hsp, hde, hhl, hc]

/-- An instruction keeps the canonical form. -/
theorem wf_of_exec {i : Instr} {s t : State} (h : exec i s = .next t) (hwf : s.wf = true) : t.wf = true := by
  obtain rfl : run i.form s = t := by simpa [exec_eq_run] using h
  exact (canonical_areas _).1 ((keepsForm_run i.form s).canonical ((canonical_areas s).2 hwf))

theorem srcBegin_of_ne_incSP {m : Src} (hm : m ≠ .incSP) (s : State) : srcBegin m s = s := by
  rw [srcBegin_eq, if_neg hm]

/-- Settles O28: the digits turn left and back again, at an address that the write of A does not move. -/
theorem roldThenRord : Obligations.RoldThenRord := by
  unfold Obligations.RoldThenRord
  intro s i j m hwf hsp hpc hi hj
  obtain ⟨t, na, nm, hit, hA, hM, hna, hnm, hpsw, -⟩ := ((nibbleInstructions s i).2 m hwf).1 hi
  obtain ⟨u, na', nm', hju, hA', hM', hna', hnm', hpsw', -⟩ :=
    ((nibbleInstructions t j).2 m (wf_of_exec hit hwf)).2 hj
  simp only [srcBegin_of_ne_incSP hsp] at hA hM hna hnm hA' hM' hna' hnm'
  rw [srcAddr_of_writesA hpc hA] at hM' hna' hnm'
  set a := srcAddr m s
  have hacc : readR8 t .a = na := readR8_of_writesR8 hA
  have hbyte : memRead8 t a = nm := (hM.1 a).trans (if_pos rfl)
  rw [hacc, hbyte] at hna' hnm'
  obtain rfl : na' = readR8 s .a := BitVec.eq_of_toNat_eq (by omega)
  have hv := (memRead8 s a).isLt
  obtain rfl : nm' = memRead8 s a := BitVec.eq_of_toNat_eq (by omega)
  have hrbs : t.psw.rbs = s.psw.rbs := by rw [hpsw]
  have hrbs' : u.psw.rbs = s.psw.rbs := by rw [hpsw', hpsw]
  exact ⟨t, u, hit, hju, keepsRegisters_of_writesR8 (writesR8_trans hA hA' hrbs) hrbs',
    keepsMemory_of_storesByte (storesByte_trans hM hM'), fun b hb => (hM.1 b).trans (if_neg hb)⟩

end Sys2Proof.Machine
end

