-- ==== Sys2Proof/Proofs/BitFlagFamily.lean ====
section
/-!
PROOFS. The family `43_bit_flag.md`. A bit of a register or of memory is read first, so its inverse in JF and ZF is of the
old bit; the forms of one operation differ in the address, the bit number and the length only. IMF is bit 0 of data
address 0x003A, so `DI` and `EI` are the bit operation there.
-/

namespace Sys2Proof.Machine

open Sys2Proof

/-! Bit operations (R250 to R258, R270 to R272) -/

/-- `SET`, `CLR`, `CPL` on the byte that an addressing mode names, at any bit number. -/
theorem memBit_effect (s : State) (h : s.wf = true) (op : BitOp) (m : Src) (k len : Nat) :
    let s1 := srcBegin m s
    let a := srcAddr m s1
    let old := bitOf (memRead8 s a) k
    let t := (memBit op a k s1).advance len
    storesByte s t a (setBit (memRead8 s a) k (bitAfter op old)) ∧ keepsRegisters s1 t ∧
      t.psw = { s.psw with jf := !old, zf := !old } ∧ continuesAfter s t len := by
  intro s1 a
  rw [memBit, memRead8_srcBegin]
  exact stepMemory_effect s h m a _ _ _ len

/-- Settles O29: a bit operation is a step of the register. -/
theorem bitOfRegister : Obligations.BitOfRegister := by
  unfold Obligations.BitOfRegister
  intro s i op g b hf old new
  have hbytes : i.form.encode = [codeByte 0xE8 g.code, codeByte (op53 op.high 0) b] := by
    rw [hf, Form.encode, regByte_eq_codeByte, op53_eq_codeByte]
  refine ⟨?_, _, exec_of_form i _ hf s, stepByte_effect s g (setBit (readR8 s g) b.toNat new) (!old) (!old) 2⟩
  cases op <;> exact hbytes

/-- Settles O30: the short rows are the row of `(x)`; `.A` takes the bit number from A, which the mode leaves. -/
theorem bitOfMemory : Obligations.BitOfMemory := by
  unfold Obligations.BitOfMemory
  intro s i op m k len hwf hrow s1 a
  have hexec : exec i s = .next ((memBit op a k s1).advance len) := by
    obtain ⟨b, hf, rfl, rfl⟩ | ⟨hf, rfl, rfl⟩ | ⟨x, b, hf, rfl, rfl, rfl, rfl⟩ | ⟨x, b, hf, rfl, rfl, rfl, rfl⟩ := hrow
    · exact exec_of_form i _ hf s
    · rw [exec_of_form i _ hf s, run, bitSrcA, bitNoOfA, readR8_srcBegin]
    · exact exec_of_form i _ hf s
    · exact exec_of_form i _ hf s
  exact ⟨_, hexec, memBit_effect s hwf op m k len⟩

/-! CF from a bit (R259 to R264, R276, R277) -/

/-- A load of CF changes CF and JF only (R259). -/
theorem loadCF_effect (s : State) (c : Bool) (len : Nat) :
    let t := (loadCF s c).advance len
    keepsRegisters s t ∧ keepsMemory s t ∧ t.psw = { s.psw with jf := !c, cf := c } ∧ continuesAfter s t len :=
  ⟨⟨rfl, rfl, rfl⟩, keepsMemory_of_areas rfl, rfl, rfl, rfl, rfl⟩

/-- Settles O31: each form loads CF with its bit, in the state that its mode leaves. -/
theorem carryFromBit : Obligations.CarryFromBit := by
  unfold Obligations.CarryFromBit
  intro s i c s1 len hrow
  have hexec : (s1 = s ∨ ∃ m, s1 = srcBegin m s) ∧ exec i s = .next ((loadCF s1 c).advance len) := by
    obtain ⟨g, b, rfl, rfl, ⟨hf, rfl⟩ | ⟨hf, rfl⟩⟩ | ⟨x, b, rfl, rfl, hf, rfl⟩ |
      ⟨m, b, rfl, rfl, ⟨hf, rfl⟩ | ⟨hf, rfl⟩⟩ | ⟨m, rfl, rfl, hf, rfl⟩ := hrow
    · exact ⟨.inl rfl, exec_of_form i _ hf s1⟩
    · exact ⟨.inl rfl, exec_of_form i _ hf s1⟩
    · exact ⟨.inl rfl, exec_of_form i _ hf s1⟩
    · refine ⟨.inr ⟨m, rfl⟩, ?_⟩
      rw [exec_of_form i _ hf s, run, ldCFSrcB, memRead8_srcBegin]
    · refine ⟨.inr ⟨m, rfl⟩, ?_⟩
      rw [exec_of_form i _ hf s, run, xorCFSrcB, memRead8_srcBegin, srcBegin_psw]
    · refine ⟨.inr ⟨m, rfl⟩, ?_⟩
      rw [exec_of_form i _ hf s, run, ldCFSrcA, memRead8_srcBegin, bitNoOfA, readR8_srcBegin]
  obtain ⟨hs1, hexec⟩ := hexec
  have heffect := loadCF_effect s1 c len
  refine ⟨_, hexec, ?_⟩
  obtain rfl | ⟨m, rfl⟩ := hs1
  · exact heffect
  · simpa using heffect

/-! A bit from CF (R265 to R267) -/

/-- A store that sets JF, in the state that an addressing mode leaves. -/
theorem storeAtSource_effect (s : State) (h : s.wf = true) (m : Src) (a : Word) (v : Byte) (len : Nat) :
    let t := (setJ (memWrite8 (srcBegin m s) a v) true).advance len
    storesByte s t a v ∧ keepsRegisters (srcBegin m s) t ∧ t.psw = { s.psw with jf := true } ∧
      continuesAfter s t len := by
  simpa [setJ, setJZ] using stepMemory_effect s h m a v true s.psw.zf len

/-- Settles O32: CF goes into the bit, in a register as by a load that leaves ZF. -/
theorem storeCarryToBit : Obligations.StoreCarryToBit := by
  unfold Obligations.StoreCarryToBit
  refine fun s i hwf => ⟨fun g b hf => ⟨_, exec_of_form i _ hf s, loadImmediate_effect s g _ 2⟩, ?_⟩
  intro m k hrow a
  let s1 := srcBegin m s
  have hexec : exec i s = .next
      ((setJ (memWrite8 s1 a (setBit (memRead8 s a) k s.psw.cf)) true).advance (2 + srcExtra m)) := by
    obtain ⟨b, hf, rfl⟩ | ⟨hf, rfl⟩ := hrow
    · rw [exec_of_form i _ hf s, run, ldSrcBCF, memRead8_srcBegin, srcBegin_psw]
    · rw [exec_of_form i _ hf s, run, ldSrcACF, memRead8_srcBegin, srcBegin_psw, bitNoOfA, readR8_srcBegin]
  exact ⟨_, hexec, storeAtSource_effect s hwf m a _ _⟩

/-! CF alone, and no effect (R280 to R282, R335) -/

/-- Settles O33: each form writes at most CF and JF, and moves PC over its one byte. -/
theorem carryInstructionsAndNop : Obligations.CarryInstructionsAndNop := by
  unfold Obligations.CarryInstructionsAndNop
  refine fun s i => ⟨fun hf => ?_, fun hf => ?_, fun hf => ?_, fun hf => ?_⟩
  all_goals exact ⟨encode_of_form hf, exec_of_form i _ hf s⟩

/-! IMF (R283, R284) -/

/-- A store of bit 0 at 0x003A, the other bits as read, is a write of IMF. -/
theorem imf_of_storesByte {s t : State} {c : Bool}
    (h : storesByte s t Config.imfAddr (setBit (memRead8 s Config.imfAddr) 0 c)) : t.imf = c := by
  obtain ⟨-, himf⟩ := h
  rw [himf, if_pos rfl, bitOf_setBit _ _ _ _ (by decide), if_pos rfl]

/-- A bit operation on bit 0 of 0x003A: the old bit is IMF, and so is the new one. -/
theorem bitOfImf_effect {s : State} {i : Instr} {op : BitOp} (hwf : s.wf = true)
    (hexec : exec i s = .next ((memBit op Config.imfAddr 0 s).advance 2)) :
    let c := bitAfter op s.imf
    ∃ t, exec i s = .next t ∧ t.imf = c ∧ t.psw = { s.psw with jf := !s.imf, zf := !s.imf } ∧ keepsRegisters s t ∧
      memRead8 t 0x003A = setBit (memRead8 s 0x003A) 0 c ∧ (∀ b, b ≠ 0x003A → memRead8 t b = memRead8 s b) ∧
      continuesAfter s t 2 := by
  have hold : bitOf (memRead8 s Config.imfAddr) 0 = s.imf := (imfAtDataAddress3A s 0 hwf).1
  obtain ⟨hstore, hregs, hpsw, hcont⟩ :
      let t := (memBit op Config.imfAddr 0 s).advance 2
      storesByte s t Config.imfAddr (setBit (memRead8 s Config.imfAddr) 0 (bitAfter op s.imf)) ∧
        keepsRegisters s t ∧ t.psw = { s.psw with jf := !s.imf, zf := !s.imf } ∧ continuesAfter s t 2 := by
    rw [← hold]
    exact memBit_effect s hwf op (.x 0x3A) 0 2
  exact ⟨_, hexec, imf_of_storesByte hstore, hpsw, hregs, (hstore.1 _).trans (if_pos rfl),
    fun b hb => (hstore.1 b).trans (if_neg hb), hcont⟩

/-- Settles O34: `DI` is `CLR` and `EI` is `SET` of the bit that is IMF. -/
theorem disableEnableInterrupts : Obligations.DisableEnableInterrupts := by
  unfold Obligations.DisableEnableInterrupts
  exact fun s hwf => ⟨bitOfImf_effect (op := .clr) hwf rfl, bitOfImf_effect (op := .set) hwf rfl⟩

end Sys2Proof.Machine
end

