-- ==== Sys2Proof/Proofs/JumpFamily.lean ====
section
/-!
PROOFS. The family `44_jump.md`. The five kinds of relative jump are one operation, `relJump`, at a condition and a target;
its target as a sum of words is the statement's sum of integers, at every width of the displacement. An absolute jump
writes PC and, in `(+SP)`, SP.
-/

namespace Sys2Proof.Machine

open Sys2Proof

/-! Relative jumps (R290 to R296) -/

/-- A base plus a sign-extended displacement is the sum of the integers modulo `2^16` (R290). -/
theorem pcPlus_add_signExtend {n : Nat} (s : State) (base : Nat) (d : BitVec n) :
    s.pcPlus base + d.signExtend 16 = BitVec.ofInt 16 (s.pc.toNat + base + d.toInt) := by
  rw [State.pcPlus, BitVec.signExtend, BitVec.ofInt_add, BitVec.ofInt_add, BitVec.ofInt_natCast, BitVec.ofInt_natCast,
    BitVec.ofNat_toNat, BitVec.setWidth_eq]

/-- Taken or not, a relative jump changes PC and JF only (R291). -/
theorem relJump_effect (s : State) (taken : Bool) (target : Word) (len : Nat) :
    let t := relJump taken target len s
    t.pc = (if taken then target else s.pcPlus len) ∧ t.psw = { s.psw with jf := true } ∧ keepsRegisters s t ∧
      keepsMemory s t ∧ keepsHost s t :=
  ⟨rfl, rfl, ⟨rfl, rfl, rfl⟩, keepsMemory_of_areas (areas_relJump s taken target len),
    rfl, relJump_event s taken target len⟩

/-- Settles O35: each row is `relJump` at its condition and its displacement. -/
theorem relativeJumps : Obligations.RelativeJumps := by
  unfold Obligations.RelativeJumps
  refine ⟨fun s i taken base len disp hrow => ?_, fun p => ⟨?_, ?_⟩⟩
  · have hexec : exec i s = .next (relJump taken (BitVec.ofInt 16 (s.pc.toNat + base + disp)) len s) := by
      obtain ⟨d, hf, rfl, rfl, rfl, rfl⟩ | ⟨d, hf, rfl, rfl, rfl, rfl⟩ | ⟨c, d, hf, rfl, rfl, rfl, rfl⟩ |
        ⟨c, d, hf, rfl, rfl, rfl, rfl⟩ | ⟨d, hf, rfl, rfl, rfl, rfl⟩ := hrow
      all_goals rw [exec_of_form i _ hf s, ← pcPlus_add_signExtend, run]
      · rw [jrs, beq_true, sext5To16]
      · rw [jrs, beq_false, sext5To16]
      · rw [jrCC, sext16]
      · rw [jrCCLong, sext16]
      · rw [jrA, sext16]
    exact ⟨_, hexec, relJump_effect s taken _ len⟩
  · exact ⟨rfl, rfl, rfl, rfl, rfl, Bool.not_or .., rfl, rfl⟩
  · have hsame : (!(p.sf ^^ p.vf)) = (p.sf == p.vf) := Bool.not_not _
    refine ⟨rfl, rfl, rfl, hsame, rfl, ?_, rfl, rfl⟩
    rw [condLongHolds, Bool.not_or, hsame]

/-! Absolute jumps (R297 to R299) -/

/-- A jump through memory reads its target in the state that the addressing mode leaves, and changes nothing else there
(R299). -/
theorem jpSrc_effect (m : Src) (s : State) :
    let s1 := srcBegin m s
    let t := jpSrc m s
    t.pc = memRead16 s (srcAddr m s1) ∧ keepsRegisters s1 t ∧ t.psw = s.psw ∧ keepsMemory s t ∧ keepsHost s t :=
  ⟨memRead16_srcBegin m s _, ⟨rfl, rfl, rfl⟩, srcBegin_psw m s, keepsMemory_of_areas (areas_srcBegin s m),
    srcBegin_code m s, srcBegin_event m s⟩

/-- Settles O37: the direct jumps are a write of PC. -/
theorem absoluteJumps : Obligations.AbsoluteJumps := by
  unfold Obligations.AbsoluteJumps
  refine fun s i => ⟨fun mn hf => ?_, fun gg hf => ?_, fun m hf => ?_⟩
  · exact ⟨encode_of_form hf, exec_of_form i _ hf s⟩
  · exact ⟨by rw [encode_of_form hf, Form.encode, regByte_eq_codeByte], exec_of_form i _ hf s⟩
  · exact ⟨_, exec_of_form i _ hf s, jpSrc_effect m s⟩

end Sys2Proof.Machine
end

