-- ==== Sys2Proof/Proofs/CallReturnFamily.lean ====
section
/-!
PROOFS. The family `45_call_return_swi_nop.md`. Every call but `CALL (+SP)` is one push and a write of PC, so one lemma
says its effect and one says that `RET` takes back what it pushed. An exception entry and the return from it (R352, R358)
are treated in the same way, for `SWI` and for an accepted request alike.
-/

namespace Sys2Proof.Machine

open Sys2Proof

/-! Calls that push first (R320 to R325) -/

/-- A call of `len` bytes: the address after it is pushed, and PC is written (R320). -/
def pushedCall (s : State) (len : Nat) (target : Word) : State := (push16 s (s.pcPlus len)).withPc target

@[simp] theorem push16_bank (s : State) (v : Word) : (push16 s v).bank = s.bank := rfl

/-- An address formed after a push sees of the push only the moved SP. -/
theorem srcAddr_push16 (m : Src) (s : State) (v : Word) :
    srcAddr m (push16 s v) = srcAddr m (s.withSp (s.sp - 2)) :=
  srcAddr_of_eq m (s.withSp (s.sp - 2)) (push16 s v) (push16_bank s v) (push16_sp s v) (push16_pc s v)

/-- `CALL (src)` pushes first in every mode but `(+SP)` (R325). -/
theorem run_callSrc {m : Src} (hm : m ≠ .incSP) (s : State) :
    run (.callSrc m) s =
      pushedCall s (2 + srcExtra m)
        (memRead16 (push16 s (s.pcPlus (2 + srcExtra m))) (srcAddr m (s.withSp (s.sp - 2)))) := by
  have hcall : run (.callSrc m) s = callPushed m s := by
    cases m with
    | incSP => exact absurd rfl hm
    | _ => rfl
  rw [hcall, callPushed, srcAddr_push16, pushedCall]

/-- A call writes PC, moves SP by two and stores two bytes. -/
theorem pushedCall_effect (s : State) (h : s.wf = true) (len : Nat) (target : Word) :
    let next := s.pcPlus len
    let t := pushedCall s len target
    t.pc = target ∧ keepsRegisters (s.withSp (s.sp - 2)) t ∧ t.psw = s.psw ∧ keepsHost s t ∧
      ∀ b, memRead8 t b = if b = s.sp - 1 then loByte next else if b = s.sp then hiByte next else memRead8 s b := by
  obtain ⟨-, -, hread⟩ := push16_spec s h (s.pcPlus len)
  refine ⟨rfl, ?_, ?_, ?_, hread⟩ <;> simp [pushedCall, keepsRegisters, keepsHost]

/-- The byte of `CALLV n` as the rule prints it (R321). -/
theorem encode_callv (n : BitVec 4) : (Form.callv n).encode = [0x70 + n.setWidth 8] := by
  revert n; decide

/-- Settles O38: the three rows are one push at their own length and target. -/
theorem directCalls : Obligations.DirectCalls := by
  unfold Obligations.DirectCalls
  intro s i target bytes hwf hrow next
  have hexec : encode i = bytes ∧ exec i s = .next (pushedCall s bytes.length target) := by
    obtain ⟨n, hf, rfl, rfl⟩ | ⟨hf, rfl⟩ | ⟨gg, hf, rfl, rfl⟩ := hrow
    · exact ⟨(encode_of_form hf).trans (encode_callv n), exec_of_form i _ hf s⟩
    · exact ⟨encode_of_form hf, exec_of_form i _ hf s⟩
    · exact ⟨by rw [encode_of_form hf, Form.encode, regByte_eq_codeByte], exec_of_form i _ hf s⟩
  obtain ⟨hbytes, hexec⟩ := hexec
  obtain ⟨hpc, ⟨h0, h1, hsp⟩, hpsw, hhost, hread⟩ := pushedCall_effect s hwf bytes.length target
  exact ⟨hbytes, _, hexec, hpc, hsp, h0, h1, hpsw, hhost, hread⟩

/-! `CALL (+SP)` (R326) -/

/-- The target is read from the two bytes above SP; the store at SP+1 comes after the read there. -/
theorem callIncSP_effect (s : State) (h : s.wf = true) :
    let next := s.pcPlus 2
    let t := callIncSP s
    t.pc = wordOf (memRead8 s (s.sp + 2)) (memRead8 s (s.sp + 1)) ∧ keepsRegisters (s.withSp (s.sp - 1)) t ∧
      t.psw = s.psw ∧ keepsHost s t ∧
      ∀ b, memRead8 t b = if b = s.sp + 1 then hiByte next else if b = s.sp then loByte next else memRead8 s b := by
  intro next t
  let s1 := memWrite8 s s.sp (loByte next)
  let s2 := memWrite8 s1 (s.sp + 1) (hiByte next)
  obtain ⟨hread1, -⟩ : storesByte s s1 s.sp (loByte next) := storesByte_memWrite8 s h _ _
  obtain ⟨hread2, -⟩ : storesByte s1 s2 (s.sp + 1) (hiByte next) :=
    storesByte_memWrite8 s1 (wf_memWrite8 s h _ _) _ _
  have hread : ∀ b, memRead8 s2 b =
      if b = s.sp + 1 then hiByte next else if b = s.sp then loByte next else memRead8 s b := fun b => by
    rw [hread2, hread1]
  have hlo : memRead8 s1 (s.sp + 1) = memRead8 s (s.sp + 1) := by
    rw [hread1, if_neg (by bv_omega)]
  have hhi : memRead8 s2 (s.sp + 2) = memRead8 s (s.sp + 2) := by
    rw [hread, if_neg (by bv_omega), if_neg (by bv_omega)]
  refine ⟨congrArg₂ wordOf hhi hlo, ?_, ?_, ?_, hread⟩ <;> simp [t, callIncSP, keepsRegisters, keepsHost]

/-- Settles O39: PC does not take part in a read of the data area, so the target is also what is read after the call. -/
theorem indirectCalls : Obligations.IndirectCalls := by
  unfold Obligations.IndirectCalls
  refine fun s i hwf => ⟨fun m hf hm => ?_, fun hf => ?_⟩
  · exact ⟨_, (exec_of_form i _ hf s).trans (congrArg _ (run_callSrc hm s)), pushedCall_effect s hwf _ _⟩
  · exact ⟨_, exec_of_form i _ hf s, callIncSP_effect s hwf⟩

/-! Return from a call (R328, R336) -/

/-- Settles O40: `RET` is a pop into PC. -/
theorem returnFromSubroutine : Obligations.ReturnFromSubroutine := by
  unfold Obligations.ReturnFromSubroutine
  exact fun s i hf => ⟨encode_of_form hf, exec_of_form i _ hf s⟩

/-- A pop takes what a push left, its two addresses being different. -/
theorem poppedWord_push16 (s : State) (h : s.wf = true) (v : Word) : poppedWord (push16 s v) = v := by
  obtain ⟨hsp, -, hread⟩ := push16_spec s h v
  have hhi : s.sp - 2 + 2 = s.sp := by bv_omega
  have hlo : s.sp - 2 + 1 = s.sp - 1 := by bv_omega
  rw [poppedWord, hsp, hhi, hlo, hread, hread, if_neg (by bv_omega), if_pos rfl, if_pos rfl, wordOf_hiByte_loByte]

/-- `RET` undoes a call but for the two bytes on the stack. -/
theorem ret_pushedCall (s : State) (h : s.wf = true) (len : Nat) (target : Word) :
    let u := ret (pushedCall s len target)
    u.pc = s.pcPlus len ∧ keepsRegisters s u ∧ u.psw = s.psw := by
  refine ⟨poppedWord_push16 s h _, ?_⟩
  simp [ret, pushedCall, keepsRegisters]

/-- Settles O43: each call but `CALL (+SP)` is one push. -/
theorem callThenReturn : Obligations.CallThenReturn := by
  unfold Obligations.CallThenReturn
  intro s t i j len hwf hrow hexec hj
  have hcall : ∃ target, exec i s = .next (pushedCall s len target) := by
    obtain ⟨n, hf, rfl⟩ | ⟨mn, hf, rfl⟩ | ⟨gg, hf, rfl⟩ | ⟨m, hf, hm, rfl⟩ := hrow
    · exact ⟨_, exec_of_form i _ hf s⟩
    · exact ⟨_, exec_of_form i _ hf s⟩
    · exact ⟨_, exec_of_form i _ hf s⟩
    · exact ⟨_, (exec_of_form i _ hf s).trans (congrArg _ (run_callSrc hm s))⟩
  obtain ⟨target, hcall⟩ := hcall
  obtain rfl : pushedCall s len target = t := by simpa [hcall] using hexec
  exact ⟨_, exec_of_form j _ hj _, ret_pushedCall s hwf len target⟩

/-! Exception entry and return (R352, R356, R358) -/

/-- `RETI` and `RETN` are one return (R329, R330). -/
theorem exec_returnFromException {j : Instr} (hj : j.form = .reti ∨ j.form = .retn) (s : State) :
    exec j s = .next (returnFromException s) := by
  obtain hj | hj := hj
  · exact exec_of_form j _ hj s
  · exact exec_of_form j _ hj s

/-- Settles O41: the return writes PC, SP, PSW and IMF. -/
theorem returnFromHandler : Obligations.ReturnFromHandler := by
  unfold Obligations.ReturnFromHandler
  intro s i hrow b
  have hform : i.form = .reti ∨ i.form = .retn := hrow.imp And.left And.left
  exact ⟨_, exec_returnFromException hform s, rfl, rfl, rfl, rfl, rfl, rfl, rfl, rfl, rfl⟩

/-- A read of any byte after an entry: at 0x003A bit 0 is the cleared IMF, over whatever the stack writes left (R352). -/
theorem memRead8_enterException_all (s : State) (h : s.wf = true) (ret vector b : Word) :
    memRead8 (enterException s ret vector) b =
      let v := if b = s.sp - 2 then loByte ret else if b = s.sp - 1 then hiByte ret
        else if b = s.sp then pswByte s.psw s.imf else memRead8 s b
      if b = Config.imfAddr then setBit v 0 false else v := by
  by_cases hb : b = Config.imfAddr
  · rw [if_pos hb, ← memRead8_entryStack s h ret b, hb, memRead8_enterException_imf]
  · rw [if_neg hb, memRead8_enterException s h ret vector b hb]

/-- Settles O42: `SWI` is the exception entry with the address after its one byte. -/
theorem softwareInterrupt : Obligations.SoftwareInterrupt := by
  unfold Obligations.SoftwareInterrupt
  exact fun s i hwf hf => ⟨encode_of_form hf, _, exec_of_form i _ hf s, enterException_sp s _ _, enterException_imf s _ _,
    enterException_pc s _ _, enterException_psw s _ _, enterException_bank0 s _ _, enterException_bank1 s _ _,
    ⟨enterException_code s _ _, enterException_event s _ _⟩, memRead8_enterException_all s hwf _ _⟩

section entry
variable {s : State} (h : s.wf = true) (hsp : s.sp ≠ 0x003A) (hsp1 : s.sp - 1 ≠ 0x003A) (hsp2 : s.sp - 2 ≠ 0x003A)
  (ret vector : Word)
include h

include hsp1 hsp2 in
/-- The return address of an entry is what a pop takes, where IMF is not in its bytes. -/
theorem poppedWord_enterException : poppedWord (enterException s ret vector) = ret := by
  have hhi : s.sp - 3 + 2 = s.sp - 1 := by bv_omega
  have hlo : s.sp - 3 + 1 = s.sp - 2 := by bv_omega
  rw [poppedWord, enterException_sp, hhi, hlo, memRead8_enterException s h ret vector _ hsp1,
    memRead8_enterException s h ret vector _ hsp2, if_neg (by bv_omega), if_pos rfl, if_pos rfl, wordOf_hiByte_loByte]

include hsp in
/-- The byte of PSW and IMF that an entry saved stands at SP+3, where it is not IMF's own. -/
theorem memRead8_savedPsw :
    memRead8 (enterException s ret vector) ((enterException s ret vector).sp + 3) = pswByte s.psw s.imf := by
  have htop : s.sp - 3 + 3 = s.sp := by bv_omega
  rw [enterException_sp, htop, memRead8_enterException s h ret vector _ hsp, if_neg (by bv_omega), if_neg (by bv_omega),
    if_pos rfl]

include hsp hsp1 hsp2 in
/-- The return undoes an entry but for the three bytes on the stack (R336, R353). -/
theorem returnFromException_enterException :
    let u := returnFromException (enterException s ret vector)
    u.pc = ret ∧ keepsRegisters s u ∧ u.psw = s.psw ∧ u.imf = s.imf := by
  have hpc := poppedWord_enterException h hsp1 hsp2 ret vector
  have hsaved := memRead8_savedPsw h hsp ret vector
  rw [returnFromException_spec, hpc, hsaved]
  simp [keepsRegisters]

end entry

/-- A request that is non-maskable or finds `IMF = 1` is taken at the boundary (R356). -/
theorem takeEvent_of_accepted {s : State} {source : Nat} {nm : Bool} (h : s.event = some (.interrupt source nm))
    (haccept : nm = true ∨ s.imf = true) : takeEvent s = some (enterInterrupt s source) := by
  unfold takeEvent
  rw [h]
  simp [haccept]

/-- Settles O44: `SWI` and an accepted request are one entry with different return addresses; the request's entry begins
in the state without the request, which has the same registers and areas. -/
theorem entryThenReturn : Obligations.EntryThenReturn := by
  unfold Obligations.EntryThenReturn
  intro s t i j hwf hsp hsp1 hsp2 hj
  refine ⟨fun hf hexec => ?_, fun source nm hevent haccept hstep => ?_⟩
  · obtain rfl : swi s = t := by simpa [exec_of_form i _ hf s, run] using hexec
    exact ⟨_, exec_returnFromException hj _, returnFromException_enterException hwf hsp hsp1 hsp2 _ _⟩
  · obtain rfl : enterInterrupt s source = t := by
      simpa [step_of_takeEvent s _ (takeEvent_of_accepted hevent haccept)] using hstep
    exact ⟨_, exec_returnFromException hj _,
      returnFromException_enterException (s := s.withEvent none) hwf hsp hsp1 hsp2 _ _⟩

end Sys2Proof.Machine
end

