-- ==== Sys2Proof/Proofs/ExceptionFamily.lean ====
section
/-!
PROOFS. The family `60_exceptions.md`. An accepted request is the exception entry begun in the state without the
request, so the rules of the entry say its effect; an instruction always answers the next state that its form computes.
-/

namespace Sys2Proof.Machine

open Sys2Proof

/-! Interrupt requests (R356, R357) -/

/-- The data area after the entry of a request: the return address is the `pc` at the boundary. -/
theorem memRead8_enterInterrupt (s : State) (h : s.wf = true) (source : Nat) (b : Word) :
    memRead8 (enterInterrupt s source) b =
      let v := if b = s.sp - 2 then loByte s.pc else if b = s.sp - 1 then hiByte s.pc
        else if b = s.sp then pswByte s.psw s.imf else memRead8 s b
      if b = Config.imfAddr then setBit v 0 false else v :=
  memRead8_enterException_all (s.withEvent none) h s.pc (Config.intVector source) b

/-- Both banks are kept, and SP goes down by the three bytes saved. -/
theorem keepsRegisters_enterInterrupt (s : State) (source : Nat) :
    keepsRegisters (s.withSp (s.sp - 3)) (enterInterrupt s source) := by
  simp [keepsRegisters, enterInterrupt]

/-- Settles O50: an accepted request is the whole step, and one held off is not taken, so the decoded instruction is. -/
theorem interruptRequests : Obligations.InterruptRequests := by
  unfold Obligations.InterruptRequests
  refine fun s source nm hwf hevent => ⟨fun haccept => ?_, fun hnm himf i hd => ?_⟩
  · have hstep : step s = .next (enterInterrupt s source) :=
      step_of_takeEvent s _ (takeEvent_of_accepted hevent haccept)
    exact ⟨_, hstep, enterException_imf _ _ _, enterException_pc _ _ _, enterException_psw _ _ _,
      keepsRegisters_enterInterrupt s source, enterException_code _ _ _, enterException_event _ _ _,
      memRead8_enterInterrupt s hwf source⟩
  · subst hnm
    exact step_of_decode_ok (takeEvent_of_heldOff hevent himf) hd

/-! No fault and no refusal (R351, R362) -/

/-- The next state is the one that the instruction's form computes. -/
theorem completes_exec (i : Instr) (s : State) : completes (exec i s) := ⟨run i.form s, exec_eq_run i s⟩

theorem ne_fault_of_completes {o : Result} (h : completes o) (f : Fault) : o ≠ .fault f := by
  obtain ⟨t, rfl⟩ := h
  nofun

/-- Settles O58: what answers a next state is no fault. -/
theorem noInstructionFaults : Obligations.NoInstructionFaults := by
  unfold Obligations.NoInstructionFaults
  exact fun i s => ⟨completes_exec i s, ne_fault_of_completes (completes_exec i s)⟩

end Sys2Proof.Machine
end
